-- ==== Sys2Proof/Word.lean ====
section
/-! DEFINITION. The word types of the block (00_scope.md R8): bytes and 32-bit words, unsigned, modulo 2^n. -/

namespace Sys2Proof

/-- One byte of any of the three address spaces (20_memory.md R70). -/
abbrev Byte := BitVec 8

/-- One 32-bit register, port or wire value. -/
abbrev Word := BitVec 32

end Sys2Proof
end

