-- ==== Sys2Proof/Syntax.lean ====
section
/-! DEFINITION. What can be presented to the machine: one constructor of `Instr` per row of spec/opcode_table.json, the operand
types, and the ports of 30_encoding.md R125 on which an instruction arrives. -/

namespace Sys2Proof

/-- How many lines carry a phase that is present (00_scope.md R12): one or four. -/
inductive Lines where
  | one
  | four
deriving DecidableEq, Repr

/-- The width of an address phase (30_encoding.md R114). -/
inductive ASize where
  | a24
  | a32
deriving DecidableEq, Repr

/-- The four kinds of CPU access (`cpu_kind`, 30_encoding.md R126). -/
inductive CpuKind where
  | load
  | store
  | fetch
  | spec
deriving DecidableEq, Repr

/-- The size of a CPU access: 1, 2 or 4 bytes (44_access_library.md R250). -/
inductive CpuSize where
  | b1
  | b2
  | b4
deriving DecidableEq, Repr

/-- An Addr phase: lines, width, value (30_encoding.md R118). -/
structure AddrPhase where
  lines : Lines
  size  : ASize
  value : Word
deriving DecidableEq, Repr

/-- An Alt phase: lines and its one byte (30_encoding.md R118; `ALT_BITS` is 8, 00_scope.md R7). -/
structure AltPhase where
  lines : Lines
  value : Byte
deriving DecidableEq, Repr

/-- The Data phase of a frame that is handed to the device: absent, a read of `last + 1` bytes (the coding of `DLR`, 10_state.md
R34, which reaches the 2^32 bytes of 20_memory.md R79), or a write of `bytes`. -/
inductive FrameData where
  | absent
  | read (lines : Lines) (last : Word)
  | write (lines : Lines) (bytes : List Byte)
deriving DecidableEq, Repr

/-- Everything of a frame but its opcode (30_encoding.md R118): what the device sees besides the Instr byte. -/
structure FrameArgs where
  ilines : Lines
  addr   : Option AddrPhase
  alt    : Option AltPhase
  dummy  : BitVec 5
  data   : FrameData
deriving DecidableEq, Repr

/-- The instructions: one constructor per row of spec/opcode_table.json. Operands of host operations are those of
30_encoding.md R127: `o` opcode, `n` lines, `a` address, `len` length, `p` buffer pointer. -/
inductive Instr where
  -- format OP: host operations (30_encoding.md R126)
  | configure
  | denyAll
  | allowMapped
  | rdid
  | cmd (o : Byte) (n : Lines)
  | wr1 (o : Byte) (len p : Word)
  | wra (o : Byte) (n : Lines) (a len p : Word)
  | rd1 (o : Byte) (len : Word)
  | rda (o : Byte) (n : Lines) (a len p : Word)
  | mmapCfg
  | abort
  | initialise
  | acquire
  | release
  | init
  | read (a len p : Word)
  | write (a len p : Word)
  -- format OP: reserved selectors (30_encoding.md R133)
  | reserved0E
  | reserved0F
  | reserved13
  | reserved14
  | reserved15
  | reserved16
  | reserved17
  | reserved18
  | reserved19
  | reserved1A
  | reserved1B
  | reserved1C
  | reserved1D
  | reserved1E
  | reserved1F
  -- format CPU: steps of the CPU access agent (44_access_library.md R250)
  | cpuLoad (a : Word) (k : CpuSize)
  | cpuStore (a : Word) (k : CpuSize) (v : Word)
  | cpuFetch (a : Word) (k : CpuSize)
  | cpuSpec (a : Word) (k : CpuSize)
  -- format TMW: the mode words the primitives write to CCR (30_encoding.md R111, R128)
  | tmwRdid
  | tmwCmd (o : Byte) (il : Lines)
  | tmwWr1 (o : Byte)
  | tmwWra (o : Byte) (il al : Lines) (sz : ASize) (dl : Lines)
  | tmwWra0 (o : Byte) (il al : Lines) (sz : ASize)
  | tmwRd1 (o : Byte)
  | tmwRda4 (o : Byte) (il : Lines) (sz : ASize) (abl : Option Lines)
  | tmwRda1 (o : Byte) (sz : ASize)
  | tmwMmapCfg (il : Lines) (sz : ASize) (abl : Option Lines)
  -- format OPC8: device opcodes (30_encoding.md R130, 42_transaction_primitives.md R212)
  | opRead (f : FrameArgs)
  | opFastRead (f : FrameArgs)
  | opQuadRead (f : FrameArgs)
  | opWrite (f : FrameArgs)
  | opQuadWrite (f : FrameArgs)
  | opEnterQuad (f : FrameArgs)
  | opExitQuad (f : FrameArgs)
  | opResetEnable (f : FrameArgs)
  | opReset (f : FrameArgs)
  | opSetBurst (f : FrameArgs)
  | opReadId (f : FrameArgs)
  -- format RGN: the attribute words of the three regions (30_encoding.md R121, R122)
  | rgnAttrOuter (srd : Byte)
  | rgnAttrMid (srd : Byte)
  | rgnAttrInner (srd : Byte)
  -- format CFG: the words CONFIGURE loads (10_state.md R30, R31)
  | crLoad (prescaler : Byte) (sshift : Bool)
  | dcrLoad (fsize : BitVec 5) (csht : BitVec 3)
deriving DecidableEq, Repr

/-- Where an instruction arrives: one port per format of the opcode table. -/
inductive Port where
  | op
  | cpu
  | tmw
  | opc8
  | rgn
  | cfg
deriving DecidableEq, Repr

/-- One presentation: the port and the bytes on it, the byte with bit 0 first. -/
structure Input where
  port  : Port
  bytes : List Byte
deriving DecidableEq, Repr

end Sys2Proof
end

