-- ==== Sys2Proof/Config.lean ====
section
/-! DEFINITION. The parameters and constants of 00_scope.md R6 and R7, and the free values (the draws of R11): opaque
functions, so that no proof can see what they are. -/

namespace Sys2Proof

/-- The straps of the block: the parameters of 00_scope.md R6 and R7 that are open. They are fixed for a run. -/
structure Params where
  /-- `P_PRESCALER`, R6. -/
  prescaler    : Nat
  /-- `P_SAMPLE_SHIFT`, R6. -/
  sampleShift  : Bool
  /-- `P_TIMEOUT_EN`, R6. -/
  timeoutEn    : Bool
  /-- `P_CS_HIGH_CYCLES`, R6. -/
  csHighCycles : Nat
  /-- `P_CAP_LOG2_BITS`, R6. -/
  capLog2Bits  : Nat
  /-- `WINDOW_BASE`, R7. -/
  windowBase   : Word
  /-- `SLOT_OUTER`, `SLOT_MID`, `SLOT_INNER`, R7. -/
  slotOuter    : Nat
  slotMid      : Nat
  slotInner    : Nat
  /-- `FIFO_DEPTH`, R7. -/
  fifoDepth    : Nat
  /-- `QUAD_ILINES`, R7. -/
  quadIlines   : Lines
  /-- `ALT_EN`, R7. -/
  altEn        : Bool
  /-- `DEVICE_ID`, R7, 42_transaction_primitives.md R215. -/
  deviceId     : Vector Byte 8
  /-- `responsive`, R7, 42_transaction_primitives.md R217. -/
  responsive   : Bool
deriving DecidableEq, Repr

/-- `FIFO_THRESHOLD` (R7), in bytes. -/
abbrev Config.fifoThreshold : Nat := 4
/-- `DUMMY_QUAD_READ` (R7), in clock cycles. -/
abbrev Config.dummyQuadRead : BitVec 5 := 6
/-- `ADDR32_THRESHOLD` (R7). -/
abbrev Config.addr32Threshold : Nat := 0x01000000
/-- `SPAN_BYTES` (R7). -/
abbrev Config.spanBytes : Nat := 0x10000000
/-- `ALT_VALUE` (R7). -/
abbrev Config.altValue : Byte := 0

/-- DESIGN CHOICE (notes/assumptions/1.md): the parameters `State.reset` starts with are the examples of
95_test_vectors.md; every statement is over all parameters. -/
def Params.atReset : Params where
  prescaler := 3
  sampleShift := true
  timeoutEn := false
  csHighCycles := 4
  capLog2Bits := 26
  windowBase := 0x90000000
  slotOuter := 0
  slotMid := 1
  slotInner := 2
  fifoDepth := 32
  quadIlines := .four
  altEn := true
  deviceId := #v[0x0D, 0x5D, 0x52, 0xA2, 0x64, 0x31, 0x91, 0x31]
  responsive := true

/-- FREE VALUE: a drawn byte (R11), used for every byte of a read frame the rules leave open (notes/assumptions/27.md). -/
opaque Config.drawByte : Nat → Byte
/-- FREE VALUE: `SR.BUSY` at one read in memory-mapped mode (10_state.md R42). -/
opaque Config.drawBusy : Nat → Bool
/-- FREE VALUE: the bytes a memory-mapped frame reads beyond those asked for (44_access_library.md R251). -/
opaque Config.drawReadAhead : Nat → Nat
/-- FREE VALUE: how many of them have moved when the access is answered (notes/assumptions/19.md). -/
opaque Config.drawMoved : Nat → Nat
/-- FREE VALUES: a register, a bit and a queue of bytes after `Wedged` (60_exceptions.md R260, R265, notes/assumptions/10.md). -/
opaque Config.drawWord : Nat → Word
opaque Config.drawBit : Nat → Bool
opaque Config.drawBytes : Nat → List Byte
/-- FREE VALUE: `dev_burst` after a device reset (42_transaction_primitives.md R216). -/
opaque Config.drawBurst : Nat → BitVec 16
/-- FREE VALUE: a byte of `psram` nothing has written since the array last became unspecified: of the count of such
events, and the address (93_implementation_defined.md U18, notes/assumptions/8.md). -/
opaque Config.drawPsram : Nat → Nat → Byte
/-- FREE VALUE: a byte of the caller's buffer no READ or RDA has written (10_state.md R57, notes/assumptions/8.md). -/
opaque Config.drawBuf : Nat → Byte

/-- OPEN parameter no rule uses: where the controller's registers stand (92_eei_decisions.md D4). -/
opaque Config.qspiRegBase : Word
/-- OPEN parameter no rule uses: whether the host must be privileged (60_exceptions.md R275, D29). -/
opaque Config.privRequired : Bool
/-- OPEN parameter no rule uses: the longest safe select-low time (93_implementation_defined.md U12). -/
opaque Config.csLowMax : Nat

end Sys2Proof
end

