-- ==== Sys2Proof/WellFormed.lean ====
section
/-! DEFINITION. Which terms of `Instr` are instructions: what the operand types alone do not say. -/

namespace Sys2Proof

/-- A 24-bit address phase carries a value below 2^24 (10_state.md R27). -/
def AddrPhase.wf (a : AddrPhase) : Bool :=
  match a.size with
  | .a24 => a.value.toNat < 0x01000000
  | .a32 => true

/-- A Data phase that is present moves 1 to 2^32 bytes (20_memory.md R79). -/
def FrameData.wf (d : FrameData) : Bool :=
  match d with
  | .absent => true
  | .read .. => true
  | .write _ bytes => 0 < bytes.length && bytes.length ≤ 2 ^ 32

/-- The phases of a frame handed to the device are each legal. -/
def FrameArgs.wf (f : FrameArgs) : Bool :=
  (match f.addr with
    | none => true
    | some a => a.wf) && f.data.wf

/-- Well-formed instructions. The word of `tmwRda1 0x9F a24` is RDID's (30_encoding.md R128), so that term is not one. -/
def WellFormed (i : Instr) : Bool :=
  match i with
  | .tmwRda1 o sz => !(o == 0x9F && sz == .a24)
  | .opRead f | .opFastRead f | .opQuadRead f | .opWrite f | .opQuadWrite f | .opEnterQuad f | .opExitQuad f
  | .opResetEnable f | .opReset f | .opSetBurst f | .opReadId f => f.wf
  | .configure | .denyAll | .allowMapped | .rdid | .cmd .. | .wr1 .. | .wra .. | .rd1 .. | .rda .. | .mmapCfg | .abort
  | .initialise | .acquire | .release | .init | .read .. | .write .. | .reserved0E | .reserved0F | .reserved13
  | .reserved14 | .reserved15 | .reserved16 | .reserved17 | .reserved18 | .reserved19 | .reserved1A | .reserved1B
  | .reserved1C | .reserved1D | .reserved1E | .reserved1F | .cpuLoad .. | .cpuStore .. | .cpuFetch .. | .cpuSpec ..
  | .tmwRdid | .tmwCmd .. | .tmwWr1 .. | .tmwWra .. | .tmwWra0 .. | .tmwRd1 .. | .tmwRda4 .. | .tmwMmapCfg ..
  | .rgnAttrOuter .. | .rgnAttrMid .. | .rgnAttrInner .. | .crLoad .. | .dcrLoad .. => true

end Sys2Proof
end

