-- ==== Sys2Proof/Decode.lean ====
section
/-! DEFINITION. The decoder, total on any presentation, and the encoder: the layouts of 30_encoding.md R111 to R116, R121,
R122, R126, R130 and 10_state.md R30, R31. How the operands of one presentation lie behind its first byte is the model's own
(notes/assumptions/4.md): the command port is `op_sel`, `op_opcode`, `op_lines`, `op_addr`, `op_len`, `op_ptr`; the CPU port is
`cpu_kind`, `cpu_size`, `cpu_addr`, `cpu_wdata`. A port has only its own lines (30_encoding.md R125): a bit or byte of a presentation
that is on none of them is not seen. -/

namespace Sys2Proof

/-- Why a presentation is no row of the opcode table. What the machine does with each is in Sys2Proof/Machine/Present.lean. -/
inductive DecodeError where
  /-- A reserved transaction-mode word (30_encoding.md R132). -/
  | reservedTmw
  /-- A mode word that is not reserved and that no primitive writes. -/
  | unlistedTmw (w : Word)
  /-- A device opcode outside 30_encoding.md R130, with its frame. -/
  | unlistedOpcode (o : Byte) (f : FrameArgs)
  /-- A descriptor attribute word the block never loads. -/
  | unlistedAttr (w : Word)
  /-- A word for `CR` that CONFIGURE never loads (10_state.md R30). -/
  | unlistedCr (w : Word)
  /-- A word for `DCR` that CONFIGURE never loads (10_state.md R31). -/
  | unlistedDcr (w : Word)
  /-- A configuration word that writes 1 to a reserved bit of `CR` and to one of `DCR` (93_implementation_defined.md U11). -/
  | reservedRegisterBit
deriving DecidableEq, Repr

/-- The byte at place `i`, 0 beyond the end. -/
def byteAt (bs : List Byte) (i : Nat) : Byte := bs.getD i 0

/-- The 32-bit value whose least significant byte is at place `i`. -/
def wordAt (bs : List Byte) (i : Nat) : Word :=
  byteAt bs (i + 3) ++ byteAt bs (i + 2) ++ byteAt bs (i + 1) ++ byteAt bs i

/-- The four bytes of a word, least significant first. -/
def leBytes (w : Word) : List Byte :=
  [w.extractLsb' 0 8, w.extractLsb' 8 8, w.extractLsb' 16 8, w.extractLsb' 24 8]

/-- The line code of a phase that is present (30_encoding.md R113). -/
def lineCode (n : Lines) : BitVec 2 :=
  match n with
  | .one => 0b01
  | .four => 0b11

/-- The line code of a phase that may be absent (30_encoding.md R113). -/
def lineCodeOpt (n : Option Lines) : BitVec 2 :=
  match n with
  | none => 0b00
  | some l => lineCode l

/-- The address size code (30_encoding.md R114). -/
def asizeCode (s : ASize) : BitVec 2 :=
  match s with
  | .a24 => 0b10
  | .a32 => 0b11

/-- The high bit of a line code whose low bit is 1. -/
def linesOfBit (b : Bool) : Lines := if b then .four else .one

/-- The low bit of an address size code whose high bit is 1. -/
def asizeOfBit (b : Bool) : ASize := if b then .a32 else .a24

/-- A transaction-mode word from its fields, most significant first (30_encoding.md R111); `ABS` is 0 (8 bits). -/
def tmwPack (fm dl : BitVec 2) (dc : BitVec 5) (abl sz al il : BitVec 2) (o : Byte) : Word :=
  (0 : BitVec 4) ++ fm ++ dl ++ (0 : BitVec 1) ++ dc ++ (0 : BitVec 2) ++ abl ++ sz ++ al ++ il ++ o

/-- The reserved mode words of 30_encoding.md R132. -/
def reservedTmw (w : Word) : Bool :=
  w.getLsbD 23 || w.extractLsb' 28 4 != 0
    || w.extractLsb' 8 2 == 0b10 || w.extractLsb' 10 2 == 0b10 || w.extractLsb' 14 2 == 0b10 || w.extractLsb' 24 2 == 0b10
    || w.extractLsb' 8 2 == 0b00
    || (!w.getLsbD 13 && w.extractLsb' 10 2 != 0b00)
    || w.extractLsb' 26 2 == 0b10
    || w.extractLsb' 16 2 != 0b00

/-- The word of RDID (30_encoding.md R128). -/
def tmwRdidWord : Word := tmwPack 0b01 0b01 0 0b00 0b10 0b01 0b01 0x9F

/-- Opcode, lines and size fields of a mode word. -/
def tmwOpc (w : Word) : Byte := w.extractLsb' 0 8
def tmwIl (w : Word) : Lines := linesOfBit (w.getLsbD 9)
def tmwAl (w : Word) : Lines := linesOfBit (w.getLsbD 11)
def tmwSz (w : Word) : ASize := asizeOfBit (w.getLsbD 12)
def tmwDl (w : Word) : Lines := linesOfBit (w.getLsbD 25)
def tmwAbl (w : Word) : Option Lines := if w.getLsbD 14 then some (linesOfBit (w.getLsbD 15)) else none

/-- The mode words, by the match and mask of the opcode table's TMW rows; RDID's word before the pattern it lies in. -/
def decodeTmw (bs : List Byte) : Except DecodeError Instr :=
  let w := wordAt bs 0
  if reservedTmw w then .error .reservedTmw
  else if w == 0x0500259F then .ok .tmwRdid
  else if w &&& 0xFFFFFD00 == 0x00000100 then .ok (.tmwCmd (tmwOpc w) (tmwIl w))
  else if w &&& 0xFFFFFF00 == 0x01000100 then .ok (.tmwWr1 (tmwOpc w))
  else if w &&& 0xFDFFE500 == 0x01002500 then .ok (.tmwWra (tmwOpc w) (tmwIl w) (tmwAl w) (tmwSz w) (tmwDl w))
  else if w &&& 0xFFFFE500 == 0x00002500 then .ok (.tmwWra0 (tmwOpc w) (tmwIl w) (tmwAl w) (tmwSz w))
  else if w &&& 0xFFFFFF00 == 0x05000100 then .ok (.tmwRd1 (tmwOpc w))
  else if w &&& 0xFFFF2D00 == 0x07182D00 then .ok (.tmwRda4 (tmwOpc w) (tmwIl w) (tmwSz w) (tmwAbl w))
  else if w &&& 0xFFFFEF00 == 0x05002500 then .ok (.tmwRda1 (tmwOpc w) (tmwSz w))
  else if w &&& 0xFFFF2DFF == 0x0F182DEB then .ok (.tmwMmapCfg (tmwIl w) (tmwSz w) (tmwAbl w))
  else .error (.unlistedTmw w)

/-- A host operation, by its 5-bit selector (30_encoding.md R126, R133); operands not listed for it are ignored (R127). `op_lines` is
one bit, 0 one line, 1 four lines (R125), and has no third value (R133). -/
def decodeOp (bs : List Byte) : Instr :=
  let o := byteAt bs 1
  let n := linesOfBit ((byteAt bs 2).getLsbD 0)
  let a := wordAt bs 3
  let len := wordAt bs 7
  let p := wordAt bs 11
  match ((byteAt bs 0).extractLsb' 0 5).toNat with
  | 0x00 => .configure
  | 0x01 => .denyAll
  | 0x02 => .allowMapped
  | 0x03 => .rdid
  | 0x04 => .cmd o n
  | 0x05 => .wr1 o len p
  | 0x06 => .wra o n a len p
  | 0x07 => .rd1 o len
  | 0x08 => .rda o n a len p
  | 0x09 => .mmapCfg
  | 0x0A => .abort
  | 0x0B => .initialise
  | 0x0C => .acquire
  | 0x0D => .release
  | 0x0E => .reserved0E
  | 0x0F => .reserved0F
  | 0x10 => .init
  | 0x11 => .read a len p
  | 0x12 => .write a len p
  | 0x13 => .reserved13
  | 0x14 => .reserved14
  | 0x15 => .reserved15
  | 0x16 => .reserved16
  | 0x17 => .reserved17
  | 0x18 => .reserved18
  | 0x19 => .reserved19
  | 0x1A => .reserved1A
  | 0x1B => .reserved1B
  | 0x1C => .reserved1C
  | 0x1D => .reserved1D
  | 0x1E => .reserved1E
  | _ => .reserved1F

/-- `cpu_size`, of three values (30_encoding.md R125, 44_access_library.md R250): bit 1 set is 4 bytes, else bit 0 set is 2 bytes, else
1 byte. The coding is the model's (notes/assumptions/4.md). -/
def cpuSizeOf (b : Byte) : CpuSize := if b.getLsbD 1 then .b4 else if b.getLsbD 0 then .b2 else .b1

/-- A CPU access, by the two bits of `cpu_kind` (30_encoding.md R126). -/
def decodeCpu (bs : List Byte) : Instr :=
  let k := cpuSizeOf (byteAt bs 1)
  let a := wordAt bs 2
  match ((byteAt bs 0).extractLsb' 0 2).toNat with
  | 0 => .cpuLoad a k
  | 1 => .cpuStore a k (wordAt bs 6)
  | 2 => .cpuFetch a k
  | _ => .cpuSpec a k

/-- The address bits that are sent: 24 or all 32 (10_state.md R36). -/
def sentAddress (z : ASize) (a : Word) : Word :=
  match z with
  | .a24 => a &&& 0x00FFFFFF
  | .a32 => a

/-- A phase of a frame handed to the device: its low bit is 1 when the phase is present, its high bit 1 for four lines. -/
def phaseLines (c : BitVec 2) : Option Lines := if c.getLsbD 0 then some (linesOfBit (c.getLsbD 1)) else none

/-- The Data phase of a frame handed to the device that writes `bytes`: none without bytes (30_encoding.md R117), at most 2^32
(20_memory.md R79). -/
def writeData (n : Lines) (bytes : List Byte) : FrameData :=
  if bytes.isEmpty then .absent
  else if bytes.length ≤ 2 ^ 32 then .write n bytes
  else .write n (bytes.take (2 ^ 32))

/-- The Addr phase of a frame handed to the device; only the bits that are sent are there (30_encoding.md R117). -/
def decodeAddr (bs : List Byte) : Option AddrPhase :=
  let z := asizeOfBit ((byteAt bs 1).getLsbD 3)
  (phaseLines ((byteAt bs 1).extractLsb' 1 2)).map fun n => ⟨n, z, sentAddress z (wordAt bs 4)⟩

/-- The Data phase of a frame handed to the device. -/
def decodeData (bs : List Byte) : FrameData :=
  match phaseLines ((byteAt bs 1).extractLsb' 6 2) with
  | none => .absent
  | some n => if (byteAt bs 2).getLsbD 5 then .read n (wordAt bs 8) else writeData n (bs.drop 12)

/-- The frame behind a device opcode: the shape byte (bit 0 Instr lines, bits 2:1 Addr phase, bit 3 address size, bits 5:4 Alt
phase, bits 7:6 Data phase), the dummy (4:0) and direction (5) byte, the Alt byte, the address, the length of a read minus 1, then the
bytes of a write. The layout is the model's (notes/assumptions/4.md); the content is the frame record of 30_encoding.md R118. -/
def decodeFrameArgs (bs : List Byte) : FrameArgs where
  ilines := linesOfBit ((byteAt bs 1).getLsbD 0)
  addr := decodeAddr bs
  alt := (phaseLines ((byteAt bs 1).extractLsb' 4 2)).map fun n => ⟨n, byteAt bs 3⟩
  dummy := (byteAt bs 2).extractLsb' 0 5
  data := decodeData bs

/-- A device opcode with its frame, by 30_encoding.md R130. -/
def decodeOpc8 (bs : List Byte) : Except DecodeError Instr :=
  let o := byteAt bs 0
  let f := decodeFrameArgs bs
  match o.toNat with
  | 0x03 => .ok (.opRead f)
  | 0x0B => .ok (.opFastRead f)
  | 0xEB => .ok (.opQuadRead f)
  | 0x02 => .ok (.opWrite f)
  | 0x38 => .ok (.opQuadWrite f)
  | 0x35 => .ok (.opEnterQuad f)
  | 0xF5 => .ok (.opExitQuad f)
  | 0x66 => .ok (.opResetEnable f)
  | 0x99 => .ok (.opReset f)
  | 0xC0 => .ok (.opSetBurst f)
  | 0x9F => .ok (.opReadId f)
  | _ => .error (.unlistedOpcode o f)

/-- The attribute word of a descriptor of the block (30_encoding.md R121, R122): XN 1, AP 0, SRD, SIZE, ENABLE. -/
def attrPack (srd : Byte) (size : BitVec 5) (enable : Bool) : Word :=
  (0x1000 : BitVec 16) ++ srd ++ (0 : BitVec 2) ++ size ++ BitVec.ofBool enable

/-- A descriptor load, by its size class (30_encoding.md R122). -/
def decodeRgn (bs : List Byte) : Except DecodeError Instr :=
  let w := wordAt bs 0
  let srd := byteAt bs 1
  if w &&& 0xFFFF00FF == 0x10000037 then .ok (.rgnAttrOuter srd)
  else if w &&& 0xFFFF00FF == 0x10000031 then .ok (.rgnAttrMid srd)
  else if w &&& 0xFFFF00FF == 0x1000002F then .ok (.rgnAttrInner srd)
  else .error (.unlistedAttr w)

/-- The word CONFIGURE loads into `CR` (10_state.md R30): PRESCALER, FTHRES = 3, FSEL = DFM = 0, SSHIFT, TCEN, ABORT = 0, EN. -/
def crPack (prescaler : Byte) (sshift tcen : Bool) : Word :=
  prescaler ++ (0 : BitVec 11) ++ (3 : BitVec 5) ++ (0 : BitVec 3) ++ BitVec.ofBool sshift ++ BitVec.ofBool tcen ++ (1 : BitVec 3)

/-- The word CONFIGURE loads into `DCR` (10_state.md R31): FSIZE, CSHT, CSAR = 1. -/
def dcrPack (fsize : BitVec 5) (csht : BitVec 3) : Word :=
  (0 : BitVec 11) ++ fsize ++ (0 : BitVec 5) ++ csht ++ (2 : BitVec 8)

/-- The bits of `CR` and of `DCR` that 10_state.md R30 and R31 do not list. -/
def crReserved : Word := 0x00FFE024
def dcrReserved : Word := 0xFFE0F8FD

/-- A configuration load, by the fixed bits of the table's CFG rows; any other word is for the register it sets no reserved bit of. DESIGN
CHOICE (notes/assumptions/41.md): a word that fits both is for `DCR`. -/
def decodeCfg (bs : List Byte) : Except DecodeError Instr :=
  let w := wordAt bs 0
  if w &&& 0x00FFFFEF == 0x00000301 then .ok (.crLoad (w.extractLsb' 24 8) (w.getLsbD 4))
  else if w &&& 0xFFE0F8FF == 0x00000002 then .ok (.dcrLoad (w.extractLsb' 16 5) (w.extractLsb' 8 3))
  else if w &&& dcrReserved == 0 then .error (.unlistedDcr w)
  else if w &&& crReserved == 0 then .error (.unlistedCr w)
  else .error .reservedRegisterBit

/-- The decoder, over any presentation: the port selects the format. What it reads is well formed (`decode_wellFormed`). -/
def decode (x : Input) : Except DecodeError Instr :=
  match x.port with
  | .op => .ok (decodeOp x.bytes)
  | .cpu => .ok (decodeCpu x.bytes)
  | .tmw => decodeTmw x.bytes
  | .opc8 => decodeOpc8 x.bytes
  | .rgn => decodeRgn x.bytes
  | .cfg => decodeCfg x.bytes

/-- The fifteen bytes of the command port (30_encoding.md R125). -/
def opBytes (sel : Byte) (o : Byte) (n : Lines) (a len p : Word) : List Byte :=
  [sel, o, match n with
    | .one => 0
    | .four => 1] ++ leBytes a ++ leBytes len ++ leBytes p

/-- A host operation without operands. -/
def opPlain (sel : Byte) : Input := ⟨.op, opBytes sel 0 .one 0 0 0⟩

/-- The ten bytes of the CPU window port. -/
def cpuBytes (kind : Byte) (k : CpuSize) (a v : Word) : List Byte :=
  [kind, match k with
    | .b1 => 0
    | .b2 => 1
    | .b4 => 2] ++ leBytes a ++ leBytes v

/-- The bytes of a frame handed to the device, behind its opcode. -/
def frameBytes (o : Byte) (f : FrameArgs) : List Byte :=
  let alCode := lineCodeOpt (f.addr.map AddrPhase.lines)
  let ablCode := lineCodeOpt (f.alt.map AltPhase.lines)
  let sizeBit := BitVec.ofBool (f.addr.map AddrPhase.size == some .a32)
  let ilBit := BitVec.ofBool (f.ilines == .four)
  let altByte := (f.alt.map AltPhase.value).getD 0
  let address := (f.addr.map AddrPhase.value).getD 0
  match f.data with
  | .absent =>
    [o, (0b00 : BitVec 2) ++ ablCode ++ sizeBit ++ alCode ++ ilBit, (0 : BitVec 3) ++ f.dummy, altByte]
      ++ leBytes address ++ leBytes 0
  | .read n last =>
    [o, lineCode n ++ ablCode ++ sizeBit ++ alCode ++ ilBit, (1 : BitVec 3) ++ f.dummy, altByte]
      ++ leBytes address ++ leBytes last
  | .write n bytes =>
    [o, lineCode n ++ ablCode ++ sizeBit ++ alCode ++ ilBit, (0 : BitVec 3) ++ f.dummy, altByte]
      ++ leBytes address ++ leBytes 0 ++ bytes

/-- A mode word on its port. -/
def tmwInput (w : Word) : Input := ⟨.tmw, leBytes w⟩

/-- The encoder: the presentation of every instruction. -/
def encode (i : Instr) : Input :=
  match i with
  | .configure => opPlain 0x00
  | .denyAll => opPlain 0x01
  | .allowMapped => opPlain 0x02
  | .rdid => opPlain 0x03
  | .cmd o n => ⟨.op, opBytes 0x04 o n 0 0 0⟩
  | .wr1 o len p => ⟨.op, opBytes 0x05 o .one 0 len p⟩
  | .wra o n a len p => ⟨.op, opBytes 0x06 o n a len p⟩
  | .rd1 o len => ⟨.op, opBytes 0x07 o .one 0 len 0⟩
  | .rda o n a len p => ⟨.op, opBytes 0x08 o n a len p⟩
  | .mmapCfg => opPlain 0x09
  | .abort => opPlain 0x0A
  | .initialise => opPlain 0x0B
  | .acquire => opPlain 0x0C
  | .release => opPlain 0x0D
  | .reserved0E => opPlain 0x0E
  | .reserved0F => opPlain 0x0F
  | .init => opPlain 0x10
  | .read a len p => ⟨.op, opBytes 0x11 0 .one a len p⟩
  | .write a len p => ⟨.op, opBytes 0x12 0 .one a len p⟩
  | .reserved13 => opPlain 0x13
  | .reserved14 => opPlain 0x14
  | .reserved15 => opPlain 0x15
  | .reserved16 => opPlain 0x16
  | .reserved17 => opPlain 0x17
  | .reserved18 => opPlain 0x18
  | .reserved19 => opPlain 0x19
  | .reserved1A => opPlain 0x1A
  | .reserved1B => opPlain 0x1B
  | .reserved1C => opPlain 0x1C
  | .reserved1D => opPlain 0x1D
  | .reserved1E => opPlain 0x1E
  | .reserved1F => opPlain 0x1F
  | .cpuLoad a k => ⟨.cpu, cpuBytes 0 k a 0⟩
  | .cpuStore a k v => ⟨.cpu, cpuBytes 1 k a v⟩
  | .cpuFetch a k => ⟨.cpu, cpuBytes 2 k a 0⟩
  | .cpuSpec a k => ⟨.cpu, cpuBytes 3 k a 0⟩
  | .tmwRdid => tmwInput tmwRdidWord
  | .tmwCmd o il => tmwInput (tmwPack 0b00 0b00 0 0b00 0b00 0b00 (lineCode il) o)
  | .tmwWr1 o => tmwInput (tmwPack 0b00 0b01 0 0b00 0b00 0b00 0b01 o)
  | .tmwWra o il al sz dl => tmwInput (tmwPack 0b00 (lineCode dl) 0 0b00 (asizeCode sz) (lineCode al) (lineCode il) o)
  | .tmwWra0 o il al sz => tmwInput (tmwPack 0b00 0b00 0 0b00 (asizeCode sz) (lineCode al) (lineCode il) o)
  | .tmwRd1 o => tmwInput (tmwPack 0b01 0b01 0 0b00 0b00 0b00 0b01 o)
  | .tmwRda4 o il sz abl => tmwInput (tmwPack 0b01 0b11 6 (lineCodeOpt abl) (asizeCode sz) 0b11 (lineCode il) o)
  | .tmwRda1 o sz => tmwInput (tmwPack 0b01 0b01 0 0b00 (asizeCode sz) 0b01 0b01 o)
  | .tmwMmapCfg il sz abl => tmwInput (tmwPack 0b11 0b11 6 (lineCodeOpt abl) (asizeCode sz) 0b11 (lineCode il) 0xEB)
  | .opRead f => ⟨.opc8, frameBytes 0x03 f⟩
  | .opFastRead f => ⟨.opc8, frameBytes 0x0B f⟩
  | .opQuadRead f => ⟨.opc8, frameBytes 0xEB f⟩
  | .opWrite f => ⟨.opc8, frameBytes 0x02 f⟩
  | .opQuadWrite f => ⟨.opc8, frameBytes 0x38 f⟩
  | .opEnterQuad f => ⟨.opc8, frameBytes 0x35 f⟩
  | .opExitQuad f => ⟨.opc8, frameBytes 0xF5 f⟩
  | .opResetEnable f => ⟨.opc8, frameBytes 0x66 f⟩
  | .opReset f => ⟨.opc8, frameBytes 0x99 f⟩
  | .opSetBurst f => ⟨.opc8, frameBytes 0xC0 f⟩
  | .opReadId f => ⟨.opc8, frameBytes 0x9F f⟩
  | .rgnAttrOuter srd => ⟨.rgn, leBytes (attrPack srd 27 true)⟩
  | .rgnAttrMid srd => ⟨.rgn, leBytes (attrPack srd 24 true)⟩
  | .rgnAttrInner srd => ⟨.rgn, leBytes (attrPack srd 23 true)⟩
  | .crLoad p s => ⟨.cfg, leBytes (crPack p s false)⟩
  | .dcrLoad f c => ⟨.cfg, leBytes (dcrPack f c)⟩

/-- The low `n` bytes of a number, least significant first. -/
def bytesOfNat (n w : Nat) : List Byte :=
  match n with
  | 0 => []
  | n + 1 => BitVec.ofNat 8 w :: bytesOfNat n (w / 256)

/-- The port of a row's word, from its width and bits alone: the table gives an OP row 5 bits, a CPU row 2, an OPC8 row 8, and
the other rows 32; where two formats share a word, the choice of notes/assumptions/5.md. -/
def tablePort (nbits w : Nat) : Port :=
  let v := BitVec.ofNat 32 w
  if nbits ≤ 4 then .cpu
  else if nbits ≤ 7 then .op
  else if nbits ≤ 8 then (if w % 256 < 0x20 then .op else .opc8)
  else if v &&& 0x00FFFFEF == 0x00000301 then .cfg
  else if v &&& 0xFFE0F8FF == 0x00000002 && v &&& 0xFFFFFD00 != 0x00000100 then .cfg
  else if v &&& 0xFFFF0000 == 0x10000000 then .rgn
  else .tmw

/-- How many bytes a port carries, the payload of a device write apart. -/
def portBytes (p : Port) : Nat :=
  match p with
  | .op => 15
  | .cpu => 10
  | .opc8 => 12
  | .tmw | .rgn | .cfg => 4

/-- The presentation of a row's word, every bit above `nbits` 0. -/
def inputOfTable (nbits w : Nat) : Input :=
  let p := tablePort nbits w
  ⟨p, bytesOfNat (portBytes p) (w % 2 ^ nbits)⟩

/-- The instruction the decoder reads from a row's word. -/
def decodeTableWord (nbits w : Nat) : Option Instr :=
  match decode (inputOfTable nbits w) with
  | .ok i => some i
  | .error _ => none

end Sys2Proof
end

