-- ==== Sys2Proof/Machine/State.lean ====
section
/-! DEFINITION. The state of the machine (10_state.md R20), the outcomes (60_exceptions.md R260), the observation trace (R60,
R61), and the state after reset (R65). -/

namespace Sys2Proof.Machine

/-- The bus-mode register (10_state.md R24). -/
inductive Mode where
  | uninitialized
  | indirectAccess
  | memoryMapped
deriving DecidableEq, Repr, Inhabited

/-- The phase pointer `ph` of the wire engine (10_state.md R40). -/
inductive Phase where
  | idle
  | instr
  | addr
  | alt
  | dummy
  | data
  | done
deriving DecidableEq, Repr, Inhabited

/-- `dev_mode` (10_state.md R55). -/
inductive DevMode where
  | spi
  | qpi
  | unknown
deriving DecidableEq, Repr

/-- `SR.BUSY` (10_state.md R42): a bit, or, after a mapped access, a draw at every read. -/
inductive BusyBit where
  | zero
  | one
  | drawn
deriving DecidableEq, Repr

/-- The direction of a Data phase (30_encoding.md R118). -/
inductive Dir where
  | write
  | read
deriving DecidableEq, Repr

/-- A Data phase with the bytes it moved (30_encoding.md R118). -/
structure DataPhase where
  lines : Lines
  dir   : Dir
  bytes : List Byte
deriving DecidableEq, Repr

/-- The frame record (30_encoding.md R118). -/
structure Frame where
  mmap    : Bool
  ilines  : Lines
  opcode  : Byte
  addr    : Option AddrPhase
  alt     : Option AltPhase
  dummy   : Nat
  data    : Option DataPhase
  aborted : Bool
deriving DecidableEq, Repr

/-- One clock of the four lines (20_memory.md R76): driven by the block on one or four lines, driven by the device on one or
four lines, or not driven. -/
inductive LineClock where
  | out1 (b : Bool)
  | out4 (v : BitVec 4)
  | in1 (b : Bool)
  | in4 (v : BitVec 4)
  | undriven
deriving DecidableEq, Repr, Inhabited


/-- One region descriptor (10_state.md R51). `perm` is NoAccess for every region the block loads and has no field. -/
structure Rgn where
  enable    : Bool
  base      : Word
  sizeClass : BitVec 5
  srd       : Byte
deriving DecidableEq, Repr, Inhabited

/-- FREE VALUES: the bus mode, the phase pointer, the lines and a descriptor after `Wedged` (60_exceptions.md R260, R265,
notes/assumptions/10.md). -/
opaque drawMode : Nat → Mode
opaque drawPhase : Nat → Phase
opaque drawLines : Nat → LineClock
opaque drawRgn : Nat → Rgn

/-- The verdict of a CPU access (10_state.md R61). -/
inductive Verdict where
  | denied
  | mapped
  | wedged
  | outside
deriving DecidableEq, Repr

/-- The events of the trace (10_state.md R61). -/
inductive Event where
  | periphReset
  | cfgLoad (cr dcr : Word)
  | irqMask
  | irqRestore (prev : Bool)
  | rgnLoad (slot : Nat) (base attr : Word)
  | tmwWrite (v : Word)
  | frame (f : Frame)
  | abortReq
  | cpuAccess (kind : CpuKind) (a : Word) (k : CpuSize) (v : Verdict)
  | diag (bytes : List Byte)
  | modeChange (m : Mode)
deriving DecidableEq, Repr

/-- The causes of `Misuse` (60_exceptions.md R261). -/
inductive MisuseReason where
  /-- A primitive, or MMAP_CFG, while `mode` is not IndirectAccess. -/
  | outsideBracket
  /-- A primitive, or MMAP_CFG, with `CR.EN = 0`. -/
  | notConfigured
  /-- A primitive, or MMAP_CFG, with the window not closed. -/
  | windowNotClosed
  /-- ACQUIRE while `Uninitialized`. -/
  | acquireBeforeInitialize
  /-- RELEASE while not in IndirectAccess. -/
  | releaseOutsideBracket
  /-- ABORT with `CR.EN = 0`. -/
  | abortBeforeConfigure
  /-- READ of at least one byte while `Uninitialized`. -/
  | readBeforeInit
  /-- WRITE of at least one byte while `Uninitialized`. -/
  | writeBeforeInit
  /-- READ or WRITE with `a + n > CAP_BYTES`. -/
  | rangeOutsideDevice
  /-- An operation presented while another is in progress (43_bus_mode_arbitration.md R229). -/
  | reentrant
deriving DecidableEq, Repr

/-- The causes of `Unsupported` (60_exceptions.md R262). -/
inductive UnsupportedReason where
  /-- A mode word written while `SR.BUSY = 1`, or a frame handed to the device while another is on the wire
  (notes/assumptions/42.md). -/
  | busy
  | wr1Length
  | rd1Length
  | rdaLength
  /-- RDA with one line and opcode 0x0B (30_encoding.md R134). -/
  | fastRead
  /-- Illegal parameters at CONFIGURE (40_bus_config.md R155), or `CR.TCEN` written 1 (93_implementation_defined.md U14). -/
  | parameters
  | reservedSelector (sel : BitVec 5)
  /-- A reserved mode word on the mode-word port (30_encoding.md R132). -/
  | reservedTmw
  /-- A reserved register bit written 1 (93_implementation_defined.md U11). -/
  | reservedRegisterBit
  /-- A descriptor attribute word that names no slot of the block, or a permission other than NoAccess (notes/assumptions/45.md). -/
  | descriptorWord
  /-- A `DR` access larger than the FIFO allows (10_state.md R38). -/
  | drAccess
  /-- A CPU store that passes the protection check (44_access_library.md R252). -/
  | storeThroughWindow
deriving DecidableEq, Repr

/-- Which wait never ends (60_exceptions.md R263). -/
inductive Wait where
  | transferComplete
  | fifoNotFull
  | fifoWordReady
  | fifoByteReady
  | abortComplete
  /-- A memory-mapped frame on hardware that does not answer (notes/assumptions/12.md). -/
  | mappedFrame
  /-- A frame handed to a device that does not answer (notes/assumptions/12.md). -/
  | deviceFrame
deriving DecidableEq, Repr

/-- The outcomes of 60_exceptions.md R260. Each is recorded in `State.fault` by the step that raises it, and every later step
stops with it (R62). Recording is safe: every claim takes "`fault` is empty" as a premise. -/
inductive Fault where
  /-- Raised by every operation whose precondition R261 lists. Safe: the hardware goes on, the model stops. -/
  | misuse (r : MisuseReason)
  /-- Raised by the operations of R262. Safe: the model stops. -/
  | unsupported (r : UnsupportedReason)
  /-- Raised at a wait that never ends (R263). Safe: the operation does not end in the model either. -/
  | hang (w : Wait)
  /-- Raised by a denied load, store or fetch of the CPU (R264). Safe: the block's state is unchanged. -/
  | windowDenied (kind : CpuKind) (a : Word) (k : CpuSize)
  /-- Raised by a CPU access that reaches a controller that is not memory-mapped (R265). Safe: the model stops, and the state of
  the block and of the device afterwards is free (notes/assumptions/10.md). -/
  | wedged (kind : CpuKind) (a : Word) (k : CpuSize)
deriving DecidableEq, Repr

/-- Why a step answers no state at all: no step of this model does. -/
inductive Refusal where
  /-- An instruction without a meaning; no arm of `exec` answers it. Safe. -/
  | notModelled (mnemonic : String)
deriving DecidableEq, Repr

/-- One access of the CPU access agent (44_access_library.md R250). -/
structure CpuAccess where
  kind : CpuKind
  addr : Word
  size : CpuSize
deriving DecidableEq, Repr

/-- One thing another agent may do between two steps of an operation (20_memory.md R91, 42_transaction_primitives.md R184):
the wire engine takes a step, the CPU makes an access, a second context presents an operation (R229), or the caller's thread
is unwound and the operation is cut short (R273). -/
inductive Turn where
  | wire
  | cpu (c : CpuAccess)
  | present
  | unwind
deriving DecidableEq, Repr

/-- A byte memory: the bytes whose value is known, addresses strictly rising. -/
abbrev Memory := List Host.Cell

/-- The complete state (10_state.md R20), the outputs of the ports (30_encoding.md R125), the straps, and the model's own
fields. INVENTORY.md gives each field its rule and reset value. -/
structure State where
  /-- The straps; no step writes them. -/
  par           : Params
  mode          : Mode
  cr            : Word
  dcr           : Word
  tcf           : Bool
  busy          : BusyBit
  dlr           : Word
  ccr           : Word
  ar            : Word
  abr           : Word
  fifo          : List Byte
  ph            : Phase
  /-- The data bytes the current frame has moved on the wire; `wire_count` is their number. -/
  wireBytes     : List Byte
  /-- The memory-mapped frame on the wire, the controller's prefetch (R58): its device address (44_access_library.md R251). -/
  mapAddr       : Word
  /-- How many data bytes that frame moves (44_access_library.md R251). -/
  mapLen        : Nat
  nCS           : Bool
  clk           : Bool
  /-- What the lines carried at the last clock. -/
  io            : LineClock
  pinsEnabled   : Bool
  rgnOuter      : Rgn
  rgnMid        : Rgn
  rgnInner      : Rgn
  irqEnabled    : Bool
  irqSaved      : Bool
  psram         : Memory
  /-- The model's own: how often every byte of `psram` became unspecified. -/
  psramEpoch    : Nat
  devMode       : DevMode
  devBurst      : BitVec 16
  devResetArmed : Bool
  buf           : Memory
  opDone        : Bool
  opWord        : Word
  diagValid     : Bool
  diagBytes     : BitVec 64
  cpuRdata      : Word
  trace         : List Event
  fault         : Option Fault
  /-- The model's own: how many free values have been drawn. -/
  draws         : Nat
  /-- The model's own: what the ports present next, first first. -/
  inputs        : List Input
  /-- The model's own: the turns of the other agents at each of the next places where they may step. -/
  sched         : List (List Turn)
  /-- The model's own: the operation under way was cut short from outside (R273). -/
  unwound       : Bool
deriving DecidableEq, Repr

/-- A region slot as `State.reset` holds it: disabled, every field 0 (DESIGN CHOICE, notes/assumptions/6.md). -/
def Rgn.zero : Rgn := ⟨false, 0, 0, 0⟩

/-- Power-on (10_state.md R65). The values R65 states are `mode`, `pinsEnabled`, `devMode`, `devResetArmed`, `trace`, `fault`;
every other register is DESIGN CHOICE (notes/assumptions/6.md, 7.md, 23.md, 28.md). -/
def State.reset : State where
  par := Params.atReset
  mode := .uninitialized
  cr := 0
  dcr := 0
  tcf := false
  busy := .zero
  dlr := 0
  ccr := 0
  ar := 0
  abr := 0
  fifo := []
  ph := .idle
  wireBytes := []
  mapAddr := 0
  mapLen := 0
  nCS := true
  clk := false
  io := .undriven
  pinsEnabled := false
  rgnOuter := Rgn.zero
  rgnMid := Rgn.zero
  rgnInner := Rgn.zero
  irqEnabled := true
  irqSaved := false
  psram := []
  psramEpoch := 0
  devMode := .spi
  devBurst := 0
  devResetArmed := false
  buf := []
  opDone := false
  opWord := 0
  diagValid := false
  diagBytes := 0
  cpuRdata := 0
  trace := []
  fault := none
  draws := 0
  inputs := []
  sched := []
  unwound := false

end Sys2Proof.Machine
end

