-- ==== Sys2Proof/Machine/Operands.lean ====
section
/-! DEFINITION. The operand forms: derived parameters (00_scope.md R6), register fields (10_state.md R30 to R36), the mode words
the primitives write (30_encoding.md R115 to R117, R128), the frame the registers describe (R118), the transaction descriptor
(10_state.md R26, R27), the region descriptors and their masks (41_protection_window.md R163, R166), the access evaluation
(20_memory.md R84, R85), and the values on the lines (20_memory.md R76, 30_encoding.md R119). -/

namespace Sys2Proof.Machine

/-! ### Parameters -/

/-- `CAP_BYTES` (00_scope.md R6). -/
def capBytes (p : Params) : Nat := 2 ^ (p.capLog2Bits - 3)

/-- The parameters CONFIGURE accepts (40_bus_config.md R155). -/
def paramsLegal (p : Params) : Bool :=
  1 ≤ p.prescaler && p.prescaler ≤ 256 && !p.timeoutEn && 1 ≤ p.csHighCycles && p.csHighCycles ≤ 8
    && 24 ≤ p.capLog2Bits && p.capLog2Bits ≤ 31

/-- The word CONFIGURE loads into `CR` (40_bus_config.md R151). -/
def crWord (p : Params) : Word := crPack (BitVec.ofNat 8 (p.prescaler - 1)) p.sampleShift p.timeoutEn

/-- The word CONFIGURE loads into `DCR` (40_bus_config.md R151). -/
def dcrWord (p : Params) : Word := dcrPack (BitVec.ofNat 5 (p.capLog2Bits - 4)) (BitVec.ofNat 3 (p.csHighCycles - 1))

/-- How many bytes a CPU access moves. -/
def sizeBytes (k : CpuSize) : Nat :=
  match k with
  | .b1 => 1
  | .b2 => 2
  | .b4 => 4

/-! ### Register fields -/

/-- `CR.EN` (10_state.md R30). -/
def crEn (cr : Word) : Bool := cr.getLsbD 0
/-- `CR.ABORT` (10_state.md R30). -/
def crAbort (cr : Word) : Bool := cr.getLsbD 1
/-- `CR` with `ABORT` set, every other bit as it was. -/
def crSetAbort (cr : Word) : Word := cr ||| 0x00000002
/-- `CR` with `ABORT` clear, every other bit as it was. -/
def crClearAbort (cr : Word) : Word := cr &&& 0xFFFFFFFD
/-- `CCR.FM` (30_encoding.md R112). -/
def ccrFm (ccr : Word) : BitVec 2 := ccr.extractLsb' 26 2
/-- `CCR.AL` (30_encoding.md R113). -/
def ccrAl (ccr : Word) : BitVec 2 := ccr.extractLsb' 10 2
/-- `CCR.DL` (30_encoding.md R113). -/
def ccrDl (ccr : Word) : BitVec 2 := ccr.extractLsb' 24 2
/-- An indirect functional mode: `FM` is `0b00` or `0b01` (42_transaction_primitives.md R181). -/
def ccrIndirect (ccr : Word) : Bool := ccrFm ccr == 0b00 || ccrFm ccr == 0b01
/-- Memory-mapped functional mode: `FM` is `0b11` (30_encoding.md R112). -/
def ccrMapped (ccr : Word) : Bool := ccrFm ccr == 0b11

/-- The lines of a line code, none where the phase is absent (30_encoding.md R113). -/
def linesOf (c : BitVec 2) : Option Lines :=
  if c == 0b01 then some .one else if c == 0b11 then some .four else none

/-- How many lines (00_scope.md R12). -/
def linesNat (n : Lines) : Nat :=
  match n with
  | .one => 1
  | .four => 4

/-! ### Address sizes and mode words -/

/-- The address width of an indirect transaction, from its start address (30_encoding.md R115). -/
def asizeOf (a : Nat) : ASize := if Config.addr32Threshold ≤ a then .a32 else .a24

/-- The address width of memory-mapped mode, from the capacity (30_encoding.md R116). -/
def asizeMapped (p : Params) : ASize := asizeOf (capBytes p - 1)

/-- The Instr lines of a primitive on `n` lines: `ci(N)` of 30_encoding.md R128. -/
def ciLines (p : Params) (n : Lines) : Lines :=
  match n with
  | .one => .one
  | .four => p.quadIlines

/-- The Alt code of a quad read (30_encoding.md R128). -/
def altCode (p : Params) : BitVec 2 := if p.altEn then 0b11 else 0b00

/-- The mode word of CMD (30_encoding.md R128). -/
def tmwOfCmd (o : Byte) (n : Lines) : Word := tmwPack 0b00 0b00 0 0b00 0b00 0b00 (lineCode n) o

/-- The mode word of WR1 (30_encoding.md R128). -/
def tmwOfWr1 (o : Byte) : Word := tmwPack 0b00 0b01 0 0b00 0b00 0b00 0b01 o

/-- The mode word of WRA, with or without data (30_encoding.md R128). -/
def tmwOfWra (p : Params) (o : Byte) (n : Lines) (a len : Word) : Word :=
  tmwPack 0b00 (if len == 0 then 0b00 else lineCode n) 0 0b00 (asizeCode (asizeOf a.toNat)) (lineCode n)
    (lineCode (ciLines p n)) o

/-- The mode word of RD1 (30_encoding.md R128). -/
def tmwOfRd1 (o : Byte) : Word := tmwPack 0b01 0b01 0 0b00 0b00 0b00 0b01 o

/-- The mode word of RDA on one or four lines (30_encoding.md R128). -/
def tmwOfRda (p : Params) (o : Byte) (n : Lines) (a : Word) : Word :=
  match n with
  | .four =>
    tmwPack 0b01 0b11 Config.dummyQuadRead (altCode p) (asizeCode (asizeOf a.toNat)) 0b11 (lineCode (ciLines p .four)) o
  | .one => tmwPack 0b01 0b01 0 0b00 (asizeCode (asizeOf a.toNat)) 0b01 0b01 o

/-- The mode word of MMAP_CFG (42_transaction_primitives.md R206). -/
def tmwOfMmap (p : Params) : Word :=
  tmwPack 0b11 0b11 Config.dummyQuadRead (altCode p) (asizeCode (asizeMapped p)) 0b11 (lineCode (ciLines p .four)) 0xEB

/-! ### The frame the registers describe -/

/-- A Data phase before it moves: lines, direction, number of bytes. -/
structure DataShape where
  lines : Lines
  dir   : Dir
  len   : Nat
deriving DecidableEq, Repr

/-- A frame before its data moves (30_encoding.md R118). -/
structure FrameShape where
  ilines : Lines
  opcode : Byte
  addr   : Option AddrPhase
  alt    : Option AltPhase
  dummy  : Nat
  data   : Option DataShape
deriving DecidableEq, Repr

/-- The frame that `CCR`, `AR`, `ABR` and `DLR` describe (30_encoding.md R118). -/
def shapeOf (ccr ar abr dlr : Word) : FrameShape where
  ilines := (linesOf (ccr.extractLsb' 8 2)).getD .one
  opcode := ccr.extractLsb' 0 8
  addr := (linesOf (ccrAl ccr)).map fun l => ⟨l, asizeOfBit (ccr.getLsbD 12), sentAddress (asizeOfBit (ccr.getLsbD 12)) ar⟩
  alt := (linesOf (ccr.extractLsb' 14 2)).map fun l => ⟨l, abr.extractLsb' 0 8⟩
  dummy := (ccr.extractLsb' 18 5).toNat
  data := (linesOf (ccrDl ccr)).map fun l => ⟨l, if ccrFm ccr == 0b00 then .write else .read, dlr.toNat + 1⟩

/-- The frame that is handed to the device with opcode `o` (30_encoding.md R118). -/
def shapeOfArgs (o : Byte) (f : FrameArgs) : FrameShape where
  ilines := f.ilines
  opcode := o
  addr := f.addr
  alt := f.alt
  dummy := f.dummy.toNat
  data :=
    match f.data with
    | .absent => none
    | .read l last => some ⟨l, .read, last.toNat + 1⟩
    | .write l bytes => some ⟨l, .write, bytes.length⟩

/-- A memory-mapped frame: the word in `CCR`, a device address in the place of `AR`, and the length the controller chose
(44_access_library.md R251). -/
def shapeMapped (ccr abr x : Word) (len : Nat) : FrameShape :=
  let f := shapeOf ccr x abr 0
  { f with data := f.data.map fun d => { d with len := len } }

/-- The frame of the registers as they are; `AR` and `DLR` are not used in memory-mapped mode (44_access_library.md R251). -/
def State.shape (s : State) : FrameShape :=
  if ccrMapped s.ccr then shapeMapped s.ccr s.abr s.mapAddr s.mapLen else shapeOf s.ccr s.ar s.abr s.dlr

/-- The record of a frame whose data phase has moved `bytes` (30_encoding.md R118). -/
def frameRecord (f : FrameShape) (mmap aborted : Bool) (bytes : List Byte) : Frame where
  mmap := mmap
  ilines := f.ilines
  opcode := f.opcode
  addr := f.addr
  alt := f.alt
  dummy := f.dummy
  data := f.data.map fun d => ⟨d.lines, d.dir, bytes⟩
  aborted := aborted

/-- `wire_count` (10_state.md R40). -/
def State.wireCount (s : State) : Nat := s.wireBytes.length

/-- The phase after `p`, skipping the phases that are absent (10_state.md R40, 30_encoding.md R118). -/
def nextPhase (f : FrameShape) (p : Phase) : Phase :=
  let afterDummy := if f.data.isSome then Phase.data else Phase.done
  let afterAlt := if f.dummy != 0 then Phase.dummy else afterDummy
  let afterAddr := if f.alt.isSome then Phase.alt else afterAlt
  match p with
  | .instr => if f.addr.isSome then .addr else afterAddr
  | .addr => afterAddr
  | .alt => afterAlt
  | .dummy => afterDummy
  | .data => .done
  | .done => .idle
  | .idle => .idle

/-- The direction of a transaction (10_state.md R26). -/
inductive TdDir where
  | none
  | write
  | read
deriving DecidableEq, Repr

/-- The transaction descriptor (10_state.md R26, R27). -/
structure TD where
  opcode      : Byte
  ilines      : Lines
  addrPresent : Bool
  alines      : Option Lines
  asize       : ASize
  addr        : Word
  ablines     : Option Lines
  dummy       : Nat
  dlines      : Option Lines
  dir         : TdDir
  len         : Nat
deriving DecidableEq, Repr

/-- The descriptor the registers hold (10_state.md R27). DESIGN CHOICE (notes/assumptions/47.md): where there is no Addr phase, of which
the rule says neither, `asize` is 24 bits when `AS` is 0b00 and `addr` is the `AR` left over, which may be 2^24 or above; for a
memory-mapped word `addr` and `len` are what `AR` and `DLR` hold. -/
def State.td (s : State) : TD where
  opcode := s.ccr.extractLsb' 0 8
  ilines := s.shape.ilines
  addrPresent := ccrAl s.ccr != 0b00
  alines := linesOf (ccrAl s.ccr)
  asize := asizeOfBit (s.ccr.getLsbD 12)
  addr := s.ar
  ablines := linesOf (s.ccr.extractLsb' 14 2)
  dummy := s.shape.dummy
  dlines := linesOf (ccrDl s.ccr)
  dir := if ccrDl s.ccr == 0b00 then .none else if ccrFm s.ccr == 0b00 then .write else .read
  len := if ccrDl s.ccr == 0b00 then 0 else s.dlr.toNat + 1

/-! ### Bytes and words -/

/-- A word from bytes, the first in bits 7:0, zero where there is none (20_memory.md R75). -/
def leWord (bs : List Byte) : Word := wordAt bs 0

/-- The eight identification bytes on the diagnostic port, the first in bits 7:0. -/
def diagWord (bs : List Byte) : BitVec 64 := wordAt bs 4 ++ wordAt bs 0

/-! ### The values on the lines -/

/-- One byte on the lines, most significant bit first; on four lines the high nibble first (20_memory.md R76). -/
def byteClocks (l : Lines) (d : Dir) (b : Byte) : List LineClock :=
  match l, d with
  | .one, .write => [7, 6, 5, 4, 3, 2, 1, 0].map fun i => .out1 (b.getLsbD i)
  | .one, .read => [7, 6, 5, 4, 3, 2, 1, 0].map fun i => .in1 (b.getLsbD i)
  | .four, .write => [.out4 (b.extractLsb' 4 4), .out4 (b.extractLsb' 0 4)]
  | .four, .read => [.in4 (b.extractLsb' 4 4), .in4 (b.extractLsb' 0 4)]

/-- The address bytes, most significant first (20_memory.md R76). -/
def addrBytes (a : AddrPhase) : List Byte :=
  match a.size with
  | .a24 => [a.value.extractLsb' 16 8, a.value.extractLsb' 8 8, a.value.extractLsb' 0 8]
  | .a32 => [a.value.extractLsb' 24 8, a.value.extractLsb' 16 8, a.value.extractLsb' 8 8, a.value.extractLsb' 0 8]

/-- The clocks of an Addr phase. -/
def addrClocks (a : AddrPhase) : List LineClock := (addrBytes a).flatMap (byteClocks a.lines .write)

/-- The clocks of a Dummy phase: the block does not drive the lines (30_encoding.md R119). -/
def dummyClocks (n : Nat) : List LineClock := List.replicate n .undriven

/-- A whole frame on the lines, one value per clock (20_memory.md R76, 30_encoding.md R118). -/
def Frame.wire (f : Frame) : List LineClock :=
  byteClocks f.ilines .write f.opcode
    ++ (match f.addr with
      | none => []
      | some a => addrClocks a)
    ++ (match f.alt with
      | none => []
      | some a => byteClocks a.lines .write a.value)
    ++ dummyClocks f.dummy
    ++ (match f.data with
      | none => []
      | some d => d.bytes.flatMap (byteClocks d.lines d.dir))

/-- The clock cycles of a frame (30_encoding.md R119); timing, on which no rule depends. -/
def Frame.cycles (f : Frame) : Nat :=
  8 / linesNat f.ilines
    + (match f.addr with
      | none => 0
      | some a => (match a.size with
          | .a24 => 24
          | .a32 => 32) / linesNat a.lines)
    + (match f.alt with
      | none => 0
      | some a => 8 / linesNat a.lines)
    + f.dummy
    + (match f.data with
      | none => 0
      | some d => 8 * d.bytes.length / linesNat d.lines)

/-! ### The protection window -/

/-- `low_ones(n)` (00_scope.md R8). -/
def lowOnes (n : Nat) : Byte := BitVec.ofNat 8 (2 ^ n - 1)

/-- `ceil_div(a, b)` (00_scope.md R8). -/
def ceilDiv (a b : Nat) : Nat := (a + (b - 1)) / b

/-- The mask of the outer region (41_protection_window.md R166). -/
def srdOuter (cap : Nat) : Byte := lowOnes (min 8 (max 1 (ceilDiv cap (2 ^ 25))))
/-- The mask of the middle region (41_protection_window.md R166). -/
def srdMid (cap : Nat) : Byte := if 2 ^ 25 ≤ cap then 0xFF else lowOnes (max 1 (ceilDiv cap (2 ^ 22)))
/-- The mask of the inner region (41_protection_window.md R166). -/
def srdInner (cap : Nat) : Byte := if 2 ^ 24 ≤ cap then 0xFF else lowOnes (max 1 (ceilDiv cap (2 ^ 21)))

/-- The outer (256 MiB), middle (32 MiB) and inner (16 MiB) descriptors with a mask (41_protection_window.md R163, R165). -/
def rgnOuterWith (p : Params) (srd : Byte) : Rgn := ⟨true, p.windowBase, 27, srd⟩
def rgnMidWith (p : Params) (srd : Byte) : Rgn := ⟨true, p.windowBase, 24, srd⟩
def rgnInnerWith (p : Params) (srd : Byte) : Rgn := ⟨true, p.windowBase, 23, srd⟩

/-- `attr(d)`: the attribute word of a descriptor (30_encoding.md R121). -/
def rgnAttr (r : Rgn) : Word := attrPack r.srd r.sizeClass r.enable

/-- The bytes a region covers (10_state.md R51). -/
def rgnSize (r : Rgn) : Nat := 2 ^ (r.sizeClass.toNat + 1)

/-- The match predicate (20_memory.md R85). -/
def rgnMatches (r : Rgn) (a : Nat) : Bool :=
  r.enable && r.base.toNat ≤ a && a < r.base.toNat + rgnSize r
    && !r.srd.getLsbD ((a - r.base.toNat) / (rgnSize r / 8))

/-- The access evaluation over the three descriptors, highest priority first (20_memory.md R84). -/
def allowedBy (inner mid outer : Rgn) (a : Nat) : Bool :=
  if rgnMatches inner a then false
  else if rgnMatches mid a then false
  else !rgnMatches outer a

/-- `allowed(A)` (20_memory.md R84). -/
def allowed (s : State) (a : Nat) : Bool := allowedBy s.rgnInner s.rgnMid s.rgnOuter a

/-- The first address of the span. -/
def spanBase (p : Params) : Nat := p.windowBase.toNat

/-- The address is in the span. -/
def inSpan (p : Params) (a : Nat) : Bool := spanBase p ≤ a && a < spanBase p + Config.spanBytes

/-- The address is in the valid sub-range (20_memory.md R81). -/
def inValid (p : Params) (a : Nat) : Bool := spanBase p ≤ a && a < spanBase p + capBytes p

/-- Every address at which a region may begin or cease to match: its eighths, and its end. -/
def rgnEdges (r : Rgn) : List Nat :=
  (List.range 9).map (fun j => r.base.toNat + j * (rgnSize r / 8)) ++ [r.base.toNat + rgnSize r]

/-- The addresses of the span at which `allowed` may change, its first address, and the end of the valid sub-range: what
holds of `allowed` at these holds at every address of the span (notes/assumptions/29.md). -/
def windowEdges (s : State) : List Nat :=
  (spanBase s.par :: (spanBase s.par + capBytes s.par) :: (rgnEdges s.rgnInner ++ rgnEdges s.rgnMid ++ rgnEdges s.rgnOuter)).filter
    (inSpan s.par)

/-- The window is closed: `allowed` is false in all of the span (10_state.md R52). -/
def windowClosed (s : State) : Bool := (windowEdges s).all fun a => !allowed s a

/-- The window is open: in the span, `allowed` holds exactly in the valid sub-range (10_state.md R52). -/
def windowOpen (s : State) : Bool := (windowEdges s).all fun a => allowed s a == inValid s.par a

end Sys2Proof.Machine
end

