-- ==== Sys2Proof/Machine/Flags.lean ====
section
/-! DEFINITION. The flags of `SR` and the readiness predicates (10_state.md R32, R42 to R44). -/

namespace Sys2Proof.Machine

/-- `SR.FLEVEL` (10_state.md R32, R39). -/
def fifoLevel (s : State) : Nat := s.fifo.length

/-- `SR.FTF` (10_state.md R44), by the functional mode (30_encoding.md R112). DEDUCED (notes/assumptions/14.md): while `CCR` holds
the 0 of the peripheral reset, which is no mode word, the flag is the 0 of 10_state.md R65 and 40_bus_config.md R151. -/
def srFtf (s : State) : Bool :=
  if s.ccr == 0 then false
  else if ccrFm s.ccr == 0b01 then Config.fifoThreshold ≤ fifoLevel s
  else if ccrFm s.ccr == 0b00 then Config.fifoThreshold ≤ s.par.fifoDepth - fifoLevel s
  else false

/-- `fifo_not_full` (10_state.md R44). -/
def fifoNotFull (s : State) : Bool := fifoLevel s < s.par.fifoDepth
/-- `fifo_word_ready` (10_state.md R44). -/
def fifoWordReady (s : State) : Bool := 4 ≤ fifoLevel s
/-- `fifo_byte_ready` (10_state.md R44). -/
def fifoByteReady (s : State) : Bool := 1 ≤ fifoLevel s
/-- `SR.TCF = 1` (10_state.md R43). -/
def transferComplete (s : State) : Bool := s.tcf
/-- `CR.ABORT = 0` (10_state.md R45). -/
def abortDone (s : State) : Bool := !crAbort s.cr
/-- The frame has left the wire (10_state.md R40). -/
def wireIdle (s : State) : Bool := s.ph == .idle

/-- A read of `SR.BUSY` (10_state.md R42): the bit, or a fresh draw. DEDUCED (notes/assumptions/13.md): while a memory-mapped frame is
on the wire it reads 1, since a 0 says that the controller is idle (43_bus_mode_arbitration.md R225). -/
def readBusy (s : State) : Bool × State :=
  match s.busy with
  | .zero => (false, s)
  | .one => (true, s)
  | .drawn => if s.ph == .idle then (Config.drawBusy s.draws, { s with draws := s.draws + 1 }) else (true, s)

/-- The word of `SR` with a given `BUSY` (10_state.md R32): FLEVEL 13:8, BUSY 5, FTF 2, TCF 1, every other bit 0. -/
def srWord (s : State) (busy : Bool) : Word :=
  (0 : BitVec 18) ++ BitVec.ofNat 6 (fifoLevel s) ++ (0 : BitVec 2) ++ BitVec.ofBool busy ++ (0 : BitVec 2)
    ++ BitVec.ofBool (srFtf s) ++ BitVec.ofBool s.tcf ++ (0 : BitVec 1)

/-- A read of `SR`: no side effect but the draw (10_state.md R42, 20_memory.md R80). -/
def readSr (s : State) : Word × State :=
  let r := readBusy s
  (srWord s r.1, r.2)

/-- `BUSY` becomes 0 when the frame has left the wire and the FIFO is empty (10_state.md R42). -/
def refreshBusy (s : State) : State :=
  if s.busy == .one && s.ph == .idle && s.fifo.isEmpty then { s with busy := .zero } else s

end Sys2Proof.Machine
end

