-- ==== Sys2Proof/Machine/Ops.lean ====
section
/-! DEFINITION. The named operations over memories and registers; raising an outcome (60_exceptions.md R260 to R265); the
device's answers (42_transaction_primitives.md R210 to R217, environment, every clause an assumption of the device); the wire
engine (R181 to R183); the descriptor bracket (41_protection_window.md R162); the CPU access (44_access_library.md R250, R251);
and how the micro-steps of an operation run with the steps of the other agents between them (20_memory.md R91). -/

namespace Sys2Proof.Machine

/-! ### Byte memories -/

/-- The canonical form: addresses strictly rising. A byte is listed exactly when its value is known, so no listed byte is one an
unlisted address reads as. -/
def Memory.wf (m : Memory) : Bool :=
  match m with
  | [] => true
  | c :: t =>
    (match t with
      | [] => true
      | d :: _ => c.1 < d.1) && Memory.wf t

/-- The known byte at an address. -/
def Memory.read (m : Memory) (a : Nat) : Option Byte :=
  match m with
  | [] => none
  | c :: t => if a = c.1 then some c.2 else Memory.read t a

/-- A store of one byte. -/
def Memory.write (m : Memory) (a : Nat) (b : Byte) : Memory :=
  match m with
  | [] => [(a, b)]
  | c :: t =>
    if a < c.1 then (a, b) :: c :: t
    else if a = c.1 then (a, b) :: t
    else c :: Memory.write t a b

/-- A store of consecutive bytes. -/
def Memory.writeList (m : Memory) (a : Nat) (bs : List Byte) : Memory :=
  match bs with
  | [] => m
  | b :: t => Memory.writeList (m.write a b) (a + 1) t

/-- `psram[a]` (10_state.md R55); a byte nothing has written since the array last became unspecified is a free value, fixed for
its address (93_implementation_defined.md U18). -/
def psramByte (s : State) (a : Nat) : Byte := (s.psram.read a).getD (Config.drawPsram s.psramEpoch a)

/-- `buf[p]` (10_state.md R57); a byte the block has not written is the caller's, a free value, fixed for its pointer. -/
def bufByte (s : State) (p : Nat) : Byte := (s.buf.read p).getD (Config.drawBuf p)

/-- `BufRead(p, n)` (00_scope.md R10). -/
def bufRead (s : State) (p n : Nat) : List Byte := (List.range n).map fun i => bufByte s (p + i)

/-- `BufWrite(p, bytes)` (00_scope.md R10). -/
def bufWrite (p : Nat) (bs : List Byte) (s : State) : State := { s with buf := s.buf.writeList p bs }

/-! ### The trace and the outcomes -/

/-- `emit` (00_scope.md R11). -/
def emit (e : Event) (s : State) : State := { s with trace := s.trace ++ [e] }

/-- `raise` (00_scope.md R11): the outcome is recorded; nothing is saved and control goes nowhere (60_exceptions.md R272). -/
def raise (f : Fault) (s : State) : State := { s with fault := some f }

/-- Every byte of `psram` becomes unspecified (42_transaction_primitives.md R211). -/
def spoilPsram (s : State) : State := { s with psram := [], psramEpoch := s.psramEpoch + 1 }

/-- A wait that never ends (60_exceptions.md R263); the contents of `psram` after it are unspecified (70_reset_and_hazards.md
R312, 93_implementation_defined.md U12). -/
def raiseHang (w : Wait) (s : State) : State := raise (.hang w) (spoilPsram s)

/-- The operation under way goes no further: an outcome was raised, or the caller was unwound. -/
def halted (s : State) : Bool := s.fault.isSome || s.unwound

/-! ### The device (environment) -/

/-- What the device does with a frame (42_transaction_primitives.md R212). -/
inductive DevAnswer where
  | readId
  | enterQuad
  | exitQuad
  | readMem (a : Nat)
  | writeMem (a : Nat)
  | setBurst
  | armReset
  | reset
  | undefined
deriving DecidableEq, Repr

/-- The Addr phase is on `l` lines: the address. -/
def addrOn (l : Lines) (f : FrameShape) : Option Nat :=
  match f.addr with
  | some a => if a.lines == l then some a.value.toNat else none
  | none => none

/-- The frame has neither Addr, Alt, Dummy nor Data phase. -/
def bareFrame (f : FrameShape) : Bool := f.addr.isNone && f.alt.isNone && f.dummy == 0 && f.data.isNone

/-- The frame has neither Alt nor Dummy phase. -/
def plainFrame (f : FrameShape) : Bool := f.alt.isNone && f.dummy == 0

/-- The frame has a Data phase on `l` lines in direction `d`. -/
def dataOn (l : Lines) (d : Dir) (f : FrameShape) : Bool :=
  match f.data with
  | some x => x.lines == l && x.dir == d
  | none => false

/-- A read of the array: an Addr and a read Data phase on `l` lines. -/
def readShape (l : Lines) (f : FrameShape) : DevAnswer :=
  match addrOn l f with
  | some a => if dataOn l .read f then .readMem a else .undefined
  | none => .undefined

/-- A write of the array: an Addr phase on `l` lines, and a write Data phase on `l` lines or none. -/
def writeShape (l : Lines) (f : FrameShape) : DevAnswer :=
  match addrOn l f with
  | some a => if plainFrame f && (f.data.isNone || dataOn l .write f) then .writeMem a else .undefined
  | none => .undefined

/-- The identification frame: a 24-bit address and an 8-byte read, one line each. -/
def idShape (f : FrameShape) : DevAnswer :=
  if plainFrame f && (f.addr.map AddrPhase.size == some .a24) && (addrOn .one f).isSome
      && f.data == some ⟨.one, .read, 8⟩ then .readId else .undefined

/-- The frame is sent on the lines the device listens on (42_transaction_primitives.md R211). -/
def listening (quad : Lines) (m : DevMode) (il : Lines) : Bool :=
  match m with
  | .spi => il == .one
  | .qpi => il == quad
  | .unknown => false

/-- The answers of a device in SPI mode (42_transaction_primitives.md R212). -/
def answerSpi (f : FrameShape) : DevAnswer :=
  if f.opcode == 0x9F then idShape f
  else if f.opcode == 0x35 then (if bareFrame f then .enterQuad else .undefined)
  else if f.opcode == 0x03 then (if plainFrame f then readShape .one f else .undefined)
  else if f.opcode == 0x02 then writeShape .one f
  else if f.opcode == 0xC0 then
    (if plainFrame f && f.addr.isNone && f.data == some ⟨.one, .write, 2⟩ then .setBurst else .undefined)
  else .undefined

/-- There is no Alt phase, or one on four lines, with any value (notes/assumptions/17.md). -/
def optionalAlt (f : FrameShape) : Bool :=
  match f.alt with
  | some a => a.lines == .four
  | none => true

/-- The answers of a device in QPI mode (42_transaction_primitives.md R212). DESIGN CHOICE (notes/assumptions/17.md): the "optional
Alt" of 0xEB is on four lines and its value does not matter. -/
def answerQpi (f : FrameShape) : DevAnswer :=
  if f.opcode == 0xF5 then (if bareFrame f then .exitQuad else .undefined)
  else if f.opcode == 0xEB then (if f.dummy == 6 && optionalAlt f then readShape .four f else .undefined)
  else if f.opcode == 0x38 then writeShape .four f
  else .undefined

/-- The device's answer to a frame, by its mode, the opcode and the shape (42_transaction_primitives.md R211, R212). -/
def devAnswer (quad : Lines) (m : DevMode) (armed : Bool) (f : FrameShape) : DevAnswer :=
  if !listening quad m f.ilines then .undefined
  else if f.opcode == 0x66 then (if bareFrame f then .armReset else .undefined)
  else if f.opcode == 0x99 then (if bareFrame f && armed then .reset else .undefined)
  else
    match m with
    | .spi => answerSpi f
    | .qpi => answerQpi f
    | .unknown => .undefined

/-- The answer to a frame of shape `f` in state `s`. -/
def answerTo (s : State) (f : FrameShape) : DevAnswer := devAnswer s.par.quadIlines s.devMode s.devResetArmed f

/-- Data byte `i` of a read frame (42_transaction_primitives.md R212, R213, R215); a byte the rules leave open is the draw of
index `d`. -/
def devByte (s : State) (ans : DevAnswer) (i d : Nat) : Byte :=
  match ans with
  | .readId => s.par.deviceId.toList.getD i 0
  | .readMem a => if a + i < capBytes s.par then psramByte s (a + i) else Config.drawByte d
  | .enterQuad | .exitQuad | .writeMem _ | .setBurst | .armReset | .reset | .undefined => Config.drawByte d

/-- What the device does when a frame begins: one it does not answer leaves it in `Unknown`, every byte of `psram` unspecified
(42_transaction_primitives.md R211). -/
def deviceLatch (ans : DevAnswer) (s : State) : State :=
  if ans == .undefined then { spoilPsram s with devMode := .unknown } else s

/-- Data byte `i` of a write frame reaches the device (42_transaction_primitives.md R214). -/
def devWriteByte (ans : DevAnswer) (i : Nat) (b : Byte) (s : State) : State :=
  match ans with
  | .writeMem a =>
    if a + i < capBytes s.par then { s with psram := s.psram.write (a + i) b } else spoilPsram s
  | .readId | .enterQuad | .exitQuad | .readMem _ | .setBurst | .armReset | .reset | .undefined => s

/-- Consecutive data bytes of a write frame reach the device, the first of index `i`. -/
def devWriteBytes (ans : DevAnswer) (i : Nat) (bs : List Byte) (s : State) : State :=
  match bs with
  | [] => s
  | b :: t => devWriteBytes ans (i + 1) t (devWriteByte ans i b s)

/-- What a complete frame does to the device besides its data (42_transaction_primitives.md R212, R216). -/
def deviceEnd (ans : DevAnswer) (bytes : List Byte) (s : State) : State :=
  match ans with
  | .enterQuad => { s with devMode := .qpi }
  | .exitQuad => { s with devMode := .spi }
  | .setBurst => { s with devBurst := byteAt bytes 1 ++ byteAt bytes 0 }
  | .armReset => { s with devResetArmed := true }
  | .reset =>
    { spoilPsram s with
      devMode := .spi, devResetArmed := false, devBurst := Config.drawBurst s.draws, draws := s.draws + 1 }
  | .readId | .readMem _ | .writeMem _ | .undefined => s

/-! ### The controller -/

/-- The record of the frame on the wire, its data so far. -/
def currentFrame (s : State) (aborted : Bool) : Frame := frameRecord s.shape (ccrMapped s.ccr) aborted s.wireBytes

/-- The record of a frame that is cut off, if there is one on the wire. -/
def emitCutOff (s : State) : State := if s.ph == .idle then s else emit (.frame (currentFrame s true)) s

/-- A frame starts (42_transaction_primitives.md R181). -/
def startFrame (s : State) : State := { s with busy := .one, ph := .instr, wireBytes := [], nCS := false }

/-- `SR.BUSY` reads 1 whatever is drawn: the bit is 1, or a memory-mapped frame is on the wire. -/
def busyHeld (s : State) : Bool := s.busy == .one || (s.busy == .drawn && s.ph != .idle)

/-- A write of `CCR` (10_state.md R35): `Unsupported` while a frame is under way (93_implementation_defined.md U17); else it
starts a frame when the word is indirect and has no Addr phase (R181). Every caller has found that `SR.BUSY` reads 0, so a busy
bit that was a draw is 0 from here (notes/assumptions/13.md). -/
def writeCcr (v : Word) (s : State) : State :=
  if busyHeld s then raise (.unsupported .busy) s
  else
    let s := { s with ccr := v, busy := .zero }
    if ccrIndirect v && ccrAl v == 0b00 then startFrame s else s

/-- A mode word is written and recorded: one line of every primitive's pseudocode. -/
def writeTmw (v : Word) (s : State) : State :=
  let s := writeCcr v s
  if s.fault.isSome then s else emit (.tmwWrite v) s

/-- A write of `AR` (10_state.md R36): it starts a frame when `CCR` is indirect with an Addr phase (R181). -/
def writeAr (a : Word) (s : State) : State :=
  let s := { s with ar := a }
  if ccrIndirect s.ccr && ccrAl s.ccr != 0b00 then startFrame s else s

/-- A write of `DLR` (10_state.md R34). -/
def writeDlr (v : Word) (s : State) : State := { s with dlr := v }

/-- A write of `ABR` (10_state.md R37). -/
def writeAbr (v : Word) (s : State) : State := { s with abr := v }

/-- A write of `FCR` (10_state.md R33): bit 1 clears `SR.TCF`. -/
def writeFcr (v : Word) (s : State) : State := if v.getLsbD 1 then { s with tcf := false } else s

/-- `FCR` reads as 0 (10_state.md R33). -/
def readFcr : Word := 0

/-- A read of `DR` as `k` bytes (10_state.md R38). -/
def readDr (k : Nat) (s : State) : Word × State :=
  if fifoLevel s < k then (0, raise (.unsupported .drAccess) s)
  else (leWord (s.fifo.take k), refreshBusy { s with fifo := s.fifo.drop k })

/-- A write of `DR` as `k` bytes (10_state.md R38). -/
def writeDr (k : Nat) (v : Word) (s : State) : State :=
  if s.par.fifoDepth - fifoLevel s < k then raise (.unsupported .drAccess) s
  else { s with fifo := s.fifo ++ (leBytes v).take k }

/-- An abort is requested (43_bus_mode_arbitration.md R228). -/
def requestAbort (s : State) : State := emit .abortReq { s with cr := crSetAbort s.cr }

/-- The abort completes (10_state.md R45); it involves only the controller. -/
def completeAbort (s : State) : State :=
  { emitCutOff s with
    ph := .idle, nCS := true, clk := false, io := .undriven, fifo := [], tcf := false, busy := .zero
    cr := crClearAbort s.cr }

/-- The peripheral reset of CONFIGURE (40_bus_config.md R151, R156): its event, the frame that is cut off, and the registers,
flags, FIFO and pins of 10_state.md R65. DESIGN CHOICE (notes/assumptions/43.md): these four lines of R151 are one micro-step, so no
other agent steps inside the reset. -/
def peripheralReset (s : State) : State :=
  { emitCutOff (emit .periphReset s) with
    cr := 0, dcr := 0, dlr := 0, ccr := 0, ar := 0, abr := 0, tcf := false, busy := .zero, fifo := []
    ph := .idle, wireBytes := [], nCS := true, clk := false, io := .undriven }

/-- A phase is entered; after the last one the transfer is complete (10_state.md R43) and the device acts on the frame. -/
def enterPhase (p : Phase) (s : State) : State :=
  if p == .done then deviceEnd (answerTo s s.shape) s.wireBytes { s with ph := .done, tcf := true }
  else { s with ph := p }

/-- One step of the Data phase (42_transaction_primitives.md R183): a byte moves, or the clock is held. -/
def wireData (d : DataShape) (s : State) : State :=
  let i := s.wireBytes.length
  match d.dir with
  | .write =>
    match s.fifo with
    | [] => s
    | b :: rest =>
      let t := devWriteByte (answerTo s s.shape) i b
        { s with fifo := rest, wireBytes := s.wireBytes ++ [b], io := (byteClocks d.lines .write b).getLastD s.io }
      if i + 1 < d.len then t else enterPhase .done t
  | .read =>
    if s.par.fifoDepth ≤ s.fifo.length then s
    else
      let b := devByte s (answerTo s s.shape) i s.draws
      let t :=
        { s with
          fifo := s.fifo ++ [b], wireBytes := s.wireBytes ++ [b], draws := s.draws + 1
          io := (byteClocks d.lines .read b).getLastD s.io }
      if i + 1 < d.len then t else enterPhase .done t

/-- The frame leaves the wire: `nCS` rises and the frame is recorded (42_transaction_primitives.md R183). -/
def endFrame (s : State) : State :=
  refreshBusy
    { emit (.frame (currentFrame s false)) s with ph := .idle, nCS := true, clk := false, io := .undriven }

/-- One step of the Data phase of a memory-mapped frame (44_access_library.md R251): a byte is read ahead and discarded, so it does
not enter `FIFO`; after the last one the frame ends by itself, and `SR.TCF` is not set (10_state.md R43). -/
def wireMapped (d : DataShape) (s : State) : State :=
  let i := s.wireBytes.length
  let b := devByte s (answerTo s s.shape) i s.draws
  let t := { s with wireBytes := s.wireBytes ++ [b], draws := s.draws + 1, io := (byteClocks d.lines .read b).getLastD s.io }
  if i + 1 < d.len then t else endFrame t

/-- The last value on the lines of the phase that is being sent. -/
def phaseIo (s : State) : LineClock :=
  match s.ph with
  | .instr => (byteClocks s.shape.ilines .write s.shape.opcode).getLastD s.io
  | .addr => ((s.shape.addr.map addrClocks).getD []).getLastD s.io
  | .alt => ((s.shape.alt.map fun a => byteClocks a.lines .write a.value).getD []).getLastD s.io
  | .dummy => .undriven
  | .idle | .data | .done => s.io

/-- One step of the wire engine (42_transaction_primitives.md R183): it completes a requested abort; with `responsive = 0` it
takes no other step (R217); else it sends the current phase, or moves one data byte, or ends the frame. -/
def wireStep (s : State) : State :=
  if crAbort s.cr then completeAbort s
  else if !s.par.responsive then s
  else
    match s.ph with
    | .idle => s
    | .instr =>
      enterPhase (nextPhase s.shape .instr) (deviceLatch (answerTo s s.shape) { s with io := phaseIo s })
    | .addr => enterPhase (nextPhase s.shape .addr) { s with io := phaseIo s }
    | .alt => enterPhase (nextPhase s.shape .alt) { s with io := phaseIo s }
    | .dummy => enterPhase (nextPhase s.shape .dummy) { s with io := phaseIo s }
    | .data =>
      match s.shape.data with
      | some d => if ccrMapped s.ccr then wireMapped d s else wireData d s
      | none => enterPhase .done s
    | .done => endFrame s

/-! ### The protection window -/

/-- The interrupt mask is saved and interrupts are disabled (41_protection_window.md R162). -/
def maskIrq (s : State) : State := emit .irqMask { s with irqSaved := s.irqEnabled, irqEnabled := false }

/-- The interrupt mask is restored (41_protection_window.md R162). -/
def restoreIrq (s : State) : State := emit (.irqRestore s.irqSaved) { s with irqEnabled := s.irqSaved }

/-- One descriptor load on the protection port (10_state.md R61). -/
def loadOuter (r : Rgn) (s : State) : State :=
  emit (.rgnLoad s.par.slotOuter r.base (rgnAttr r)) { s with rgnOuter := r }
def loadMid (r : Rgn) (s : State) : State :=
  emit (.rgnLoad s.par.slotMid r.base (rgnAttr r)) { s with rgnMid := r }
def loadInner (r : Rgn) (s : State) : State :=
  emit (.rgnLoad s.par.slotInner r.base (rgnAttr r)) { s with rgnInner := r }

/-- The bracket (41_protection_window.md R162): one atomic step. -/
def loadWindow (outer mid inner : Rgn) (s : State) : State :=
  restoreIrq (loadInner inner (loadMid mid (loadOuter outer (maskIrq s))))

/-- `mode <- m` (10_state.md R24). -/
def setMode (m : Mode) (s : State) : State := emit (.modeChange m) { s with mode := m }

/-! ### Whole frames: memory-mapped ones, and those handed to the device -/

/-- The `n` data bytes of a read frame that follow the first `i`; draws are numbered from `d`. -/
def devBytes (s : State) (ans : DevAnswer) (i n d : Nat) : List Byte :=
  (List.range n).map fun j => devByte s ans (i + j) (d + j)

/-- The memory-mapped frame that is on the wire runs to its end (44_access_library.md R251); nothing where there is none. -/
def finishMapped (s : State) : State :=
  if s.ph == .idle then s
  else
    let rest := s.mapLen - s.wireBytes.length
    let bytes := devBytes s (answerTo s s.shape) s.wireBytes.length rest s.draws
    endFrame { s with wireBytes := s.wireBytes ++ bytes, draws := s.draws + rest }

/-- How many bytes a memory-mapped frame for `n` bytes reads ahead: a draw, the frame moving at most 2^32 bytes
(44_access_library.md R251, 20_memory.md R79). -/
def readAhead (d n : Nat) : Nat := min (Config.drawReadAhead d) (2 ^ 32 - n)

/-- The registers of the frame that answers an access of `n` bytes at `a`: it has moved nothing yet. -/
def beginMapped (a : Word) (n : Nat) (s : State) : State :=
  { s with
    busy := .drawn, fifo := [], wireBytes := [], mapAddr := BitVec.ofNat 32 (a.toNat - spanBase s.par)
    mapLen := n + readAhead s.draws n }

/-- The access is served by one frame (44_access_library.md R251): its first bytes answer the access, `SR.BUSY` becomes a draw
(10_state.md R42). How much of what it reads ahead has moved by then is a draw, and so is whether the frame has ended
(notes/assumptions/19.md). A frame whose mode word has no Data phase, which no primitive writes, moves nothing and ends at once, what
answers the access being a draw (notes/assumptions/34.md); only such a frame does anything to the device at its end, one that reads
does not. -/
def serveMapped (kind : CpuKind) (a : Word) (k : CpuSize) (s : State) : State :=
  let n := sizeBytes k
  let ahead := readAhead s.draws n
  let more := min (Config.drawMoved s.draws) ahead
  let f := (beginMapped a n s).shape
  let whole := f.data.isNone || decide (ahead ≤ Config.drawMoved s.draws)
  let ans := answerTo s f
  let first := devBytes s ans 0 n (s.draws + 1)
  let bytes := if f.data.isNone then [] else first ++ devBytes s ans n more (s.draws + 1 + n)
  let t := deviceLatch ans (beginMapped a n s)
  let served := { t with
    wireBytes := bytes, draws := s.draws + 1 + n + more, clk := false, nCS := whole
    ph := if whole then .idle else .data
    io := if whole then .undriven else (bytes.flatMap (byteClocks ((f.data.map DataShape.lines).getD .four) .read)).getLastD s.io
    cpuRdata := if kind == .spec then s.cpuRdata else leWord first
    trace := s.trace ++ if whole then [.frame (frameRecord f true false bytes)] else [] }
  if f.data.isNone then deviceEnd ans [] served else served

/-- The state of the block and of the device when nothing defines it any more (60_exceptions.md R260, R265): the bus mode, the
descriptors, every register, flag, queue, pin and result of the block is a free value, the device is in `Unknown` and its array
unspecified (notes/assumptions/10.md). -/
def undefineState (s : State) : State :=
  let d := s.draws
  { spoilPsram s with
    mode := drawMode d, rgnOuter := drawRgn d, rgnMid := drawRgn (d + 1), rgnInner := drawRgn (d + 2)
    cr := Config.drawWord d, dcr := Config.drawWord (d + 1), dlr := Config.drawWord (d + 2), ccr := Config.drawWord (d + 3)
    ar := Config.drawWord (d + 4), abr := Config.drawWord (d + 5), mapAddr := Config.drawWord (d + 6)
    opWord := Config.drawWord (d + 7), cpuRdata := Config.drawWord (d + 8)
    diagBytes := Config.drawWord (d + 9) ++ Config.drawWord (d + 10)
    tcf := Config.drawBit d, nCS := Config.drawBit (d + 1), clk := Config.drawBit (d + 2), devResetArmed := Config.drawBit (d + 3)
    pinsEnabled := Config.drawBit (d + 4), irqSaved := Config.drawBit (d + 5), diagValid := Config.drawBit (d + 6)
    busy := .drawn, fifo := Config.drawBytes d, wireBytes := Config.drawBytes (d + 1), mapLen := Config.drawReadAhead d
    ph := drawPhase d, io := drawLines d, devMode := .unknown, devBurst := Config.drawBurst d, draws := d + 11 }

/-- `raise Wedged` (60_exceptions.md R265): the outcome is recorded (10_state.md R62, 93_implementation_defined.md U7), and the state
is no longer defined. -/
def raiseWedged (kind : CpuKind) (a : Word) (k : CpuSize) (s : State) : State :=
  raise (.wedged kind a k) (undefineState s)

/-- MAPPED_ACCESS (44_access_library.md R250): outside, denied, wedged, store, served, in that order (60_exceptions.md R271). An
access that is served finds the frame of the one before it ended (notes/assumptions/20.md). -/
def mappedAccess (kind : CpuKind) (a : Word) (k : CpuSize) (s : State) : State :=
  let lo := a.toNat
  let n := sizeBytes k
  if !(spanBase s.par ≤ lo && lo + n ≤ spanBase s.par + Config.spanBytes) then emit (.cpuAccess kind a k .outside) s
  else if !(allowed s lo && allowed s (lo + n - 1)) then
    let t := emit (.cpuAccess kind a k .denied) s
    if kind == .spec then t else raise (.windowDenied kind a k) t
  else if !crEn s.cr || !ccrMapped s.ccr then raiseWedged kind a k (emit (.cpuAccess kind a k .wedged) s)
  else if kind == .store then raise (.unsupported .storeThroughWindow) (emit (.cpuAccess kind a k .mapped) s)
  else if !s.par.responsive then
    raiseHang .mappedFrame (startFrame (beginMapped a n (emit (.cpuAccess kind a k .mapped) s)))
  else serveMapped kind a k (emit (.cpuAccess kind a k .mapped) (finishMapped s))

/-- The data of a frame handed to the device: the bytes it answers or takes. -/
def deviceData (ans : DevAnswer) (d : FrameData) (s : State) : List Byte × State :=
  match d with
  | .absent => ([], s)
  | .read _ last => (devBytes s ans 0 (last.toNat + 1) s.draws, { s with draws := s.draws + (last.toNat + 1) })
  | .write _ bytes => (bytes, devWriteBytes ans 0 bytes s)

/-- A whole frame is handed to the device (42_transaction_primitives.md R211 to R217). With `responsive = 0` it starts and never
ends (60_exceptions.md R260, R263). DESIGN CHOICE (notes/assumptions/46.md): none of the checks of R182 is made, so the frame, recorded
as an indirect one, is sent in any mode, with `CR.EN` 0 and with the window open, where 10_state.md R25 (c) lets none start; and it is
whole in one micro-step that leaves the controller's registers, `SR.TCF`, `nCS` and `wire_count` among them, as they were. DESIGN CHOICE
(notes/assumptions/42.md): while another frame is on the wire, beside which 20_memory.md
R80 lets no second exist and for which the spec names no outcome, it is `Unsupported`. -/
def deviceFrame (o : Byte) (f : FrameArgs) (s : State) : State :=
  if s.ph != .idle then raise (.unsupported .busy) s
  else if !s.par.responsive then raiseHang .deviceFrame (startFrame s)
  else
    let shape := shapeOfArgs o f
    let ans := answerTo s shape
    let r := deviceData ans f.data s
    emit (.frame (frameRecord shape false false r.1)) (deviceEnd ans r.1 (deviceLatch ans r.2))

/-! ### The steps of the other agents, and the waits -/

/-- One turn of another agent. -/
def takeTurn (t : Turn) (s : State) : State :=
  match t with
  | .wire => wireStep s
  | .cpu c => mappedAccess c.kind c.addr c.size s
  | .present => raise (.misuse .reentrant) s
  | .unwind => { s with unwound := true }

/-- The turns at one place, until the operation is halted. -/
def takeTurns (ts : List Turn) (s : State) : State :=
  match ts with
  | [] => s
  | t :: rest =>
    let s := takeTurn t s
    if halted s then s else takeTurns rest s

/-- A place where the other agents may step (20_memory.md R91): the next entry of the schedule is used up. -/
def interleave (s : State) : State :=
  match s.sched with
  | [] => s
  | ts :: rest => takeTurns ts { s with sched := rest }

/-- `wait until` (00_scope.md R11), with the wire engine stepping; `fuel` bounds the steps it needs. -/
def waitLoop (cond : State → Bool) (w : Wait) (fuel : Nat) (s : State) : State :=
  let s := interleave s
  if halted s then s
  else if cond s then s
  else
    match fuel with
    | 0 => raiseHang w s
    | n + 1 => waitLoop cond w n (wireStep s)

/-- How many wire-engine steps end any frame: its phases, its data bytes, and its end. -/
def frameFuel (s : State) : Nat := s.dlr.toNat + 8

/-- A wait of a primitive: with `responsive = 0` the first one never ends (42_transaction_primitives.md R217,
notes/assumptions/11.md). -/
def waitFor (cond : State → Bool) (w : Wait) (s : State) : State :=
  if s.par.responsive then waitLoop cond w (frameFuel s) s else raiseHang w s

/-- The wait for an abort; it needs no device (43_bus_mode_arbitration.md R224, R228). -/
def waitAbort (s : State) : State := waitLoop abortDone .abortComplete 1 s

/-- One micro-step of an operation: a line of its pseudocode. -/
abbrev Micro := State → State

/-- The micro-steps of an operation in order, the other agents stepping before each; an outcome or an unwinding ends it. -/
def runMicros (ms : List Micro) (s : State) : State :=
  match ms with
  | [] => s
  | m :: rest =>
    let s := interleave s
    if halted s then s
    else
      let s := m s
      if halted s then s else runMicros rest s

/-- The operation begins: the outputs of the command and diagnostic ports fall. -/
def beginOp (s : State) : State := { s with opDone := false, diagValid := false, unwound := false }

/-- An abort that was requested when the caller was unwound completes by itself (10_state.md R45, notes/assumptions/32.md). -/
def finishAbort (s : State) : State := if crAbort s.cr then completeAbort s else s

/-- The operation ends: `op_done` rises if it ended normally; an outcome leaves the state as the raising step found it
(60_exceptions.md R260). -/
def endOp (s : State) : State :=
  if s.fault.isSome then { s with opDone := false, unwound := false }
  else if s.unwound then { finishAbort s with opDone := false, unwound := false }
  else { s with opDone := true }

/-- A host operation: nothing has a meaning once an outcome is recorded, and an outcome it raises stands recorded in the next state
(10_state.md R62). -/
def runOp (ms : List Micro) (s : State) : Host.Outcome State Fault Refusal :=
  match s.fault with
  | some f => .fault f
  | none => .next (endOp (runMicros ms (beginOp s)))

/-- A step of one agent that is not a host operation; an outcome stands recorded in the next state (10_state.md R62). -/
def runStep (m : Micro) (s : State) : Host.Outcome State Fault Refusal :=
  match s.fault with
  | some f => .fault f
  | none => .next (m s)

end Sys2Proof.Machine
end

