-- ==== Sys2Proof/Machine/BusConfig.lean ====
section
/-! DEFINITION. Bus Controller Configuration (40_bus_config.md): CONFIGURE, and the two register loads it is made of, CR.load
and DCR.load. -/

namespace Sys2Proof.Machine

/-- Illegal parameters are refused before any state changes (40_bus_config.md R155). -/
def checkParams (s : State) : State := if paramsLegal s.par then s else raise (.unsupported .parameters) s

/-- The physical signal lines are handed to the controller (40_bus_config.md R152). -/
def enablePins (s : State) : State := { s with pinsEnabled := true }

/-- The load of `CR` (40_bus_config.md R151). -/
def loadCr (v : Word) (s : State) : State := { s with cr := v }

/-- The load of `DCR` and the event that records both loads (40_bus_config.md R151, notes/assumptions/25.md). -/
def loadDcr (v : Word) (s : State) : State := emit (.cfgLoad s.cr v) { s with dcr := v }

/-- CONFIGURE, a line of R151 at a time (40_bus_config.md R151). -/
def configureSteps (p : Params) : List Micro :=
  [checkParams, enablePins, peripheralReset, loadCr (crWord p), loadDcr (dcrWord p)]

/-- CONFIGURE (40_bus_config.md R151). -/
def execConfigure (s : State) : Host.Outcome State Fault Refusal := runOp (configureSteps s.par) s

/-- CR.load (10_state.md R30): the word of the row, into `CR`. -/
def execCrLoad (prescaler : Byte) (sshift : Bool) (s : State) : Host.Outcome State Fault Refusal :=
  runStep (loadCr (crPack prescaler sshift false)) s

/-- DCR.load (10_state.md R31): the word of the row, into `DCR`. -/
def execDcrLoad (fsize : BitVec 5) (csht : BitVec 3) (s : State) : Host.Outcome State Fault Refusal :=
  runStep (loadDcr (dcrPack fsize csht)) s

end Sys2Proof.Machine
end

