-- ==== Sys2Proof/Machine/Transaction.lean ====
section
/-! DEFINITION. The command/transaction primitives (42_transaction_primitives.md section 2): RDID, CMD, WR1, WRA, RD1, RDA,
MMAP_CFG, and the mode words they write (the TMW rows of the opcode table). -/

namespace Sys2Proof.Machine

/-- `common_pre` (42_transaction_primitives.md R182): mode, enable, window, busy, in that order. -/
def commonPre (s : State) : State :=
  if s.mode != .indirectAccess then raise (.misuse .outsideBracket) s
  else if !crEn s.cr then raise (.misuse .notConfigured) s
  else if !windowClosed s then raise (.misuse .windowNotClosed) s
  else
    let r := readBusy s
    if r.1 then raise (.unsupported .busy) r.2 else r.2

/-- An operand check that follows `common_pre`. -/
def require (ok : Bool) (r : UnsupportedReason) (s : State) : State := if ok then s else raise (.unsupported r) s

/-- `FCR.CTCF <- 1` (10_state.md R33). -/
def clearTcf (s : State) : State := writeFcr 0x00000002 s

/-- The operation ends when the transfer is complete and the frame has left the wire (42_transaction_primitives.md R180,
R185, notes/assumptions/15.md). -/
def settle (s : State) : State := waitFor wireIdle .transferComplete s

/-- `n` reads of `DR` as one byte, each after its wait (42_transaction_primitives.md R190): the bytes in order. -/
def takeBytes (n : Nat) (s : State) : List Byte × State :=
  match n with
  | 0 => ([], s)
  | n + 1 =>
    let s := waitFor fifoByteReady .fifoByteReady s
    if halted s then ([], s)
    else
      let r := readDr 1 s
      let rest := takeBytes n r.2
      (r.1.extractLsb' 0 8 :: rest.1, rest.2)

/-- `report` (42_transaction_primitives.md R191): all zeros and all ones are suppressed. -/
def report (id : List Byte) (s : State) : State :=
  if id.all (fun b => b == 0x00) || id.all (fun b => b == 0xFF) then s
  else emit (.diag id) { s with diagBytes := diagWord id, diagValid := true }

/-- RDID's eight reads and its report (42_transaction_primitives.md R190), which follows the frame (44_access_library.md R241
lists the events in that order). -/
def readIdentification (s : State) : State :=
  let r := takeBytes 8 s
  if halted r.2 then r.2
  else
    let s := settle r.2
    if halted s then s else report r.1 s

/-- RDID (42_transaction_primitives.md R190). -/
def rdidSteps : List Micro :=
  [commonPre, clearTcf, writeDlr 7, writeTmw tmwRdidWord, writeAr 0, readIdentification]

/-- CMD (42_transaction_primitives.md R193). UNVERIFIED (30_encoding.md R134, notes/assumptions/44.md): on four
lines, and with opcodes 0xF5, 0x66, 0x99, it is shown by no flow of the source. -/
def cmdSteps (o : Byte) (n : Lines) : List Micro :=
  [commonPre, clearTcf, writeTmw (tmwOfCmd o n), waitFor transferComplete .transferComplete, settle]

/-- WR1's two bytes as one unit (42_transaction_primitives.md R195). -/
def pushPair (p : Word) (s : State) : State :=
  writeDr 2 ((0 : BitVec 16) ++ bufByte s (p.toNat + 1) ++ bufByte s p.toNat) s

/-- WR1 (42_transaction_primitives.md R195, R196). UNVERIFIED (30_encoding.md R134, notes/assumptions/44.md): with any
opcode it is shown by no flow of the source. -/
def wr1Steps (o : Byte) (len p : Word) : List Micro :=
  [commonPre, require (len == 2) .wr1Length, clearTcf, writeDlr 1, writeTmw (tmwOfWr1 o), pushPair p,
    waitFor transferComplete .transferComplete, settle]

/-- WRA's write loop (42_transaction_primitives.md R198): `n` bytes from pointer `q`, each gated on `fifo_not_full`. -/
def pushBytes (n q : Nat) (s : State) : State :=
  match n with
  | 0 => s
  | n + 1 =>
    let s := waitFor fifoNotFull .fifoNotFull s
    if halted s then s else pushBytes n (q + 1) (writeDr 1 ((bufByte s q).setWidth 32) s)

/-- `DLR <- n - 1` unless `n = 0` (30_encoding.md R117). -/
def writeLength (len : Word) (s : State) : State := if len == 0 then s else writeDlr (len - 1) s

/-- WRA (42_transaction_primitives.md R198, R199). UNVERIFIED (30_encoding.md R134, notes/assumptions/44.md): on one
line, and with length 0, it is shown by no flow of the source. -/
def wraSteps (par : Params) (o : Byte) (n : Lines) (a len p : Word) : List Micro :=
  [commonPre, clearTcf, writeLength len, writeTmw (tmwOfWra par o n a len), writeAr a, pushBytes len.toNat p.toNat,
    waitFor transferComplete .transferComplete, settle]

/-- RD1's result (42_transaction_primitives.md R200): the bytes popped, the first in bits 7:0, zero in those not read. -/
def assembleWord (n : Nat) (s : State) : State :=
  let r := takeBytes n s
  if halted r.2 then r.2 else { r.2 with opWord := leWord r.1 }

/-- RD1 (42_transaction_primitives.md R200). UNVERIFIED (30_encoding.md R134, notes/assumptions/44.md): with any opcode
it is shown by no flow of the source. -/
def rd1Steps (o : Byte) (len : Word) : List Micro :=
  [commonPre, require (1 ≤ len.toNat && len.toNat ≤ 4) .rd1Length, clearTcf, writeDlr (len - 1), writeTmw (tmwOfRd1 o),
    waitFor transferComplete .transferComplete, assembleWord len.toNat, settle]

/-- The drain's word path (42_transaction_primitives.md R203): `k` reads of `DR` as four bytes, stored from pointer `q`. -/
def drainWords (k q : Nat) (s : State) : State :=
  match k with
  | 0 => s
  | k + 1 =>
    let s := waitFor fifoWordReady .fifoWordReady s
    if halted s then s
    else
      let r := readDr 4 s
      drainWords k (q + 4) (bufWrite q (leBytes r.1) r.2)

/-- The drain's byte path (42_transaction_primitives.md R203): `k` reads of `DR` as one byte. -/
def drainBytes (k q : Nat) (s : State) : State :=
  match k with
  | 0 => s
  | k + 1 =>
    let s := waitFor fifoByteReady .fifoByteReady s
    if halted s then s
    else
      let r := readDr 1 s
      drainBytes k (q + 1) (bufWrite q [r.1.extractLsb' 0 8] r.2)

/-- `drain(n, p)` (42_transaction_primitives.md R203): words while the buffer is word-aligned and four bytes remain. -/
def drain (n p : Nat) (s : State) : State :=
  if p % 4 = 0 then
    let s := drainWords (n / 4) p s
    if halted s then s else drainBytes (n % 4) (p + 4 * (n / 4)) s
  else drainBytes n p s

/-- `ABR <- ALT_VALUE` where the Alt phase is used (42_transaction_primitives.md R204). -/
def writeAlt (on : Bool) (s : State) : State := if on then writeAbr (Config.altValue.setWidth 32) s else s

/-- RDA (42_transaction_primitives.md R202, R205; 30_encoding.md R134). UNVERIFIED (30_encoding.md R134, notes/assumptions/44.md): on
one line it is shown by no flow of the source. -/
def rdaSteps (par : Params) (o : Byte) (n : Lines) (a len p : Word) : List Micro :=
  [commonPre, require (len != 0) .rdaLength, require (!(n == .one && o == 0x0B)) .fastRead, clearTcf, writeDlr (len - 1),
    writeAlt (n == .four && par.altEn), writeTmw (tmwOfRda par o n a), writeAr a, drain len.toNat p.toNat, settle]

/-- MMAP_CFG's preconditions, in the order R206 lists them (42_transaction_primitives.md R206). -/
def mmapPre (s : State) : State :=
  if !crEn s.cr then raise (.misuse .notConfigured) s
  else
    let r := readBusy s
    if r.1 then raise (.unsupported .busy) r.2
    else if s.mode != .indirectAccess then raise (.misuse .outsideBracket) r.2
    else if !windowClosed s then raise (.misuse .windowNotClosed) r.2
    else r.2

/-- MMAP_CFG (42_transaction_primitives.md R206). -/
def mmapSteps (par : Params) : List Micro := [mmapPre, writeAlt par.altEn, writeTmw (tmwOfMmap par)]

/-- RDID (42_transaction_primitives.md R190). -/
def execRdid (s : State) : Host.Outcome State Fault Refusal := runOp rdidSteps s

/-- CMD (42_transaction_primitives.md R193). -/
def execCmd (o : Byte) (n : Lines) (s : State) : Host.Outcome State Fault Refusal := runOp (cmdSteps o n) s

/-- WR1 (42_transaction_primitives.md R195). -/
def execWr1 (o : Byte) (len p : Word) (s : State) : Host.Outcome State Fault Refusal := runOp (wr1Steps o len p) s

/-- WRA (42_transaction_primitives.md R198). -/
def execWra (o : Byte) (n : Lines) (a len p : Word) (s : State) : Host.Outcome State Fault Refusal :=
  runOp (wraSteps s.par o n a len p) s

/-- RD1 (42_transaction_primitives.md R200). -/
def execRd1 (o : Byte) (len : Word) (s : State) : Host.Outcome State Fault Refusal := runOp (rd1Steps o len) s

/-- RDA (42_transaction_primitives.md R202). -/
def execRda (o : Byte) (n : Lines) (a len p : Word) (s : State) : Host.Outcome State Fault Refusal :=
  runOp (rdaSteps s.par o n a len p) s

/-- MMAP_CFG (42_transaction_primitives.md R206). -/
def execMmapCfg (s : State) : Host.Outcome State Fault Refusal := runOp (mmapSteps s.par) s

/-- One mode word is written to `CCR` (10_state.md R35) under the checks of the primitive that writes it
(notes/assumptions/24.md). -/
def tmwRow (pre : Micro) (v : Word) (s : State) : State :=
  let s := pre s
  if s.fault.isSome then s else writeTmw v s

/-- TMW.RDID (42_transaction_primitives.md R190): no frame starts before `AR` is written. -/
def execTmwRdid (s : State) : Host.Outcome State Fault Refusal := runStep (tmwRow commonPre tmwRdidWord) s

/-- TMW.CMD (42_transaction_primitives.md R193): a frame starts. -/
def execTmwCmd (o : Byte) (il : Lines) (s : State) : Host.Outcome State Fault Refusal :=
  runStep (tmwRow commonPre (tmwPack 0b00 0b00 0 0b00 0b00 0b00 (lineCode il) o)) s

/-- TMW.WR1 (42_transaction_primitives.md R195): a frame starts; its Data phase waits for the FIFO. -/
def execTmwWr1 (o : Byte) (s : State) : Host.Outcome State Fault Refusal :=
  runStep (tmwRow commonPre (tmwPack 0b00 0b01 0 0b00 0b00 0b00 0b01 o)) s

/-- TMW.WRA (42_transaction_primitives.md R198): no frame starts before `AR` is written. -/
def execTmwWra (o : Byte) (il al : Lines) (sz : ASize) (dl : Lines) (s : State) : Host.Outcome State Fault Refusal :=
  runStep (tmwRow commonPre (tmwPack 0b00 (lineCode dl) 0 0b00 (asizeCode sz) (lineCode al) (lineCode il) o)) s

/-- TMW.WRA0 (42_transaction_primitives.md R198): the address-only form. -/
def execTmwWra0 (o : Byte) (il al : Lines) (sz : ASize) (s : State) : Host.Outcome State Fault Refusal :=
  runStep (tmwRow commonPre (tmwPack 0b00 0b00 0 0b00 (asizeCode sz) (lineCode al) (lineCode il) o)) s

/-- TMW.RD1 (42_transaction_primitives.md R200): a frame starts. -/
def execTmwRd1 (o : Byte) (s : State) : Host.Outcome State Fault Refusal :=
  runStep (tmwRow commonPre (tmwPack 0b01 0b01 0 0b00 0b00 0b00 0b01 o)) s

/-- TMW.RDA4 (42_transaction_primitives.md R202): no frame starts before `AR` is written. -/
def execTmwRda4 (o : Byte) (il : Lines) (sz : ASize) (abl : Option Lines) (s : State) :
    Host.Outcome State Fault Refusal :=
  runStep (tmwRow commonPre (tmwPack 0b01 0b11 6 (lineCodeOpt abl) (asizeCode sz) 0b11 (lineCode il) o)) s

/-- TMW.RDA1 (42_transaction_primitives.md R205): no frame starts before `AR` is written. -/
def execTmwRda1 (o : Byte) (sz : ASize) (s : State) : Host.Outcome State Fault Refusal :=
  runStep (tmwRow commonPre (tmwPack 0b01 0b01 0 0b00 (asizeCode sz) 0b01 0b01 o)) s

/-- TMW.MMAP_CFG (42_transaction_primitives.md R206): memory-mapped mode; no frame starts. -/
def execTmwMmapCfg (il : Lines) (sz : ASize) (abl : Option Lines) (s : State) : Host.Outcome State Fault Refusal :=
  runStep (tmwRow mmapPre (tmwPack 0b11 0b11 6 (lineCodeOpt abl) (asizeCode sz) 0b11 (lineCode il) 0xEB)) s

end Sys2Proof.Machine
end

