-- ==== Sys2Proof/Machine/Window.lean ====
section
/-! DEFINITION. The protection-window coordinator (41_protection_window.md): DENY_ALL, ALLOW_MAPPED, and the three descriptor
loads they are made of (the RGN rows of the opcode table). -/

namespace Sys2Proof.Machine

/-- DENY_ALL's bracket (41_protection_window.md R163). -/
def denyStep (s : State) : State := loadWindow (rgnOuterWith s.par 0) (rgnMidWith s.par 0) (rgnInnerWith s.par 0) s

/-- ALLOW_MAPPED's bracket (41_protection_window.md R165, R166). -/
def allowStep (s : State) : State :=
  let cap := capBytes s.par
  loadWindow (rgnOuterWith s.par (srdOuter cap)) (rgnMidWith s.par (srdMid cap)) (rgnInnerWith s.par (srdInner cap)) s

/-- DENY_ALL (41_protection_window.md R163). -/
def execDenyAll (s : State) : Host.Outcome State Fault Refusal := runOp [denyStep] s

/-- ALLOW_MAPPED (41_protection_window.md R165). -/
def execAllowMapped (s : State) : Host.Outcome State Fault Refusal := runOp [allowStep] s

/-- RGN_ATTR.OUTER (30_encoding.md R122): one load of the outer slot. -/
def execRgnAttrOuter (srd : Byte) (s : State) : Host.Outcome State Fault Refusal :=
  runStep (loadOuter (rgnOuterWith s.par srd)) s

/-- RGN_ATTR.MID (30_encoding.md R122): one load of the middle slot. -/
def execRgnAttrMid (srd : Byte) (s : State) : Host.Outcome State Fault Refusal :=
  runStep (loadMid (rgnMidWith s.par srd)) s

/-- RGN_ATTR.INNER (30_encoding.md R122): one load of the inner slot. -/
def execRgnAttrInner (srd : Byte) (s : State) : Host.Outcome State Fault Refusal :=
  runStep (loadInner (rgnInnerWith s.par srd)) s

end Sys2Proof.Machine
end

