-- ==== Sys2Proof/Machine/Arbitration.lean ====
section
/-! DEFINITION. Bus mode arbitration (43_bus_mode_arbitration.md): INITIALIZE, ACQUIRE, RELEASE, ABORT. -/

namespace Sys2Proof.Machine

/-- INITIALIZE (43_bus_mode_arbitration.md R222). The window is closed only after the reset, so the interval of
70_reset_and_hazards.md R318 stands open to the other agents. -/
def initialiseSteps (par : Params) : List Micro := configureSteps par ++ [denyStep, setMode .indirectAccess]

/-- ACQUIRE's precondition (43_bus_mode_arbitration.md R224). -/
def acquirePre (s : State) : State :=
  if s.mode == .uninitialized then raise (.misuse .acquireBeforeInitialize) s else s

/-- "`if SR.BUSY = 1`": an abort is requested, the other agents stepping between the read and the request (20_memory.md R91); a busy
bit that reads 0 is 0 from here, since the controller is idle (R224, R225 (d), notes/assumptions/13.md). -/
def abortIfBusy (s : State) : State :=
  let r := readBusy s
  if r.1 then
    let s := interleave r.2
    if halted s then s else requestAbort s
  else { r.2 with busy := .zero }

/-- ACQUIRE (43_bus_mode_arbitration.md R224): close, abort what is left over, take the bus. -/
def acquireSteps : List Micro := [acquirePre, denyStep, abortIfBusy, waitAbort, setMode .indirectAccess]

/-- RELEASE's precondition (43_bus_mode_arbitration.md R226). -/
def releasePre (s : State) : State :=
  if s.mode == .indirectAccess then s else raise (.misuse .releaseOutsideBracket) s

/-- RELEASE (43_bus_mode_arbitration.md R226): map, then open. -/
def releaseSteps (par : Params) : List Micro := releasePre :: mmapSteps par ++ [allowStep, setMode .memoryMapped]

/-- ABORT's precondition (43_bus_mode_arbitration.md R228). -/
def abortPre (s : State) : State := if crEn s.cr then s else raise (.misuse .abortBeforeConfigure) s

/-- ABORT (43_bus_mode_arbitration.md R228). -/
def abortSteps : List Micro := [abortPre, requestAbort, waitAbort]

/-- INITIALIZE (43_bus_mode_arbitration.md R222). -/
def execInitialise (s : State) : Host.Outcome State Fault Refusal := runOp (initialiseSteps s.par) s

/-- ACQUIRE (43_bus_mode_arbitration.md R224). -/
def execAcquire (s : State) : Host.Outcome State Fault Refusal := runOp acquireSteps s

/-- RELEASE (43_bus_mode_arbitration.md R226). -/
def execRelease (s : State) : Host.Outcome State Fault Refusal := runOp (releaseSteps s.par) s

/-- ABORT (43_bus_mode_arbitration.md R228). -/
def execAbort (s : State) : Host.Outcome State Fault Refusal := runOp abortSteps s

end Sys2Proof.Machine
end

