-- ==== Sys2Proof/Machine/Access.lean ====
section
/-! DEFINITION. The access library (44_access_library.md): INIT, READ, WRITE, and the CPU's accesses through the window:
CPU.LOAD, CPU.STORE, CPU.FETCH, CPU.SPEC. -/

namespace Sys2Proof.Machine

/-- INIT (44_access_library.md R241; 30_encoding.md R141). -/
def initSteps (par : Params) : List Micro := initialiseSteps par ++ rdidSteps ++ cmdSteps 0x35 .one

/-- The checks of READ and WRITE after the zero length (44_access_library.md R243, R245, R246): the range on naturals. -/
def accessPre (r : MisuseReason) (a len : Word) (s : State) : State :=
  if s.mode == .uninitialized then raise (.misuse r) s
  else if capBytes s.par < a.toNat + len.toNat then raise (.misuse .rangeOutsideDevice) s
  else s

/-- READ (44_access_library.md R243; 30_encoding.md R141): nothing at all for length 0. -/
def readSteps (par : Params) (a len p : Word) : List Micro :=
  if len == 0 then []
  else accessPre .readBeforeInit a len :: acquireSteps ++ rdaSteps par 0xEB .four a len p ++ releaseSteps par

/-- WRITE (44_access_library.md R245; 30_encoding.md R141): nothing at all for length 0. -/
def writeSteps (par : Params) (a len p : Word) : List Micro :=
  if len == 0 then []
  else accessPre .writeBeforeInit a len :: acquireSteps ++ wraSteps par 0x38 .four a len p ++ releaseSteps par

/-- INIT (44_access_library.md R241). -/
def execInit (s : State) : Host.Outcome State Fault Refusal := runOp (initSteps s.par) s

/-- READ (44_access_library.md R243). -/
def execRead (a len p : Word) (s : State) : Host.Outcome State Fault Refusal := runOp (readSteps s.par a len p) s

/-- WRITE (44_access_library.md R245). -/
def execWrite (a len p : Word) (s : State) : Host.Outcome State Fault Refusal := runOp (writeSteps s.par a len p) s

/-- CPU.LOAD (44_access_library.md R250). -/
def execCpuLoad (a : Word) (k : CpuSize) (s : State) : Host.Outcome State Fault Refusal :=
  runStep (mappedAccess .load a k) s

/-- CPU.STORE (44_access_library.md R250, R252): the value reaches nothing, since no write configuration exists. -/
def execCpuStore (a : Word) (k : CpuSize) (_v : Word) (s : State) : Host.Outcome State Fault Refusal :=
  runStep (mappedAccess .store a k) s

/-- CPU.FETCH (44_access_library.md R250): served as a load. -/
def execCpuFetch (a : Word) (k : CpuSize) (s : State) : Host.Outcome State Fault Refusal :=
  runStep (mappedAccess .fetch a k) s

/-- CPU.SPEC (44_access_library.md R250, R253): dropped when denied, its data discarded when served. -/
def execCpuSpec (a : Word) (k : CpuSize) (s : State) : Host.Outcome State Fault Refusal :=
  runStep (mappedAccess .spec a k) s

end Sys2Proof.Machine
end

