-- ==== Sys2Proof/Machine/DeviceOpcodes.lean ====
section
/-! DEFINITION. The device opcodes (30_encoding.md R130): the device's answer to a whole frame that carries one
(42_transaction_primitives.md R211 to R217). A frame it has no answer for leaves it in `Unknown` (R211).

UNVERIFIED (30_encoding.md R134, notes/assumptions/44.md): every opcode but 0xEB, 0x38, 0x35 and 0x9F is shown by no flow of the
source. -/

namespace Sys2Proof.Machine

/-- The device's `read` (42_transaction_primitives.md R212): an array read on one line in SPI mode. -/
def execOpRead (f : FrameArgs) (s : State) : Host.Outcome State Fault Refusal := runStep (deviceFrame 0x03 f) s

/-- The device's `fast-read` (42_transaction_primitives.md R212): no defined answer. -/
def execOpFastRead (f : FrameArgs) (s : State) : Host.Outcome State Fault Refusal := runStep (deviceFrame 0x0B f) s

/-- The device's `quad-read` (42_transaction_primitives.md R212): an array read on four lines in QPI mode. -/
def execOpQuadRead (f : FrameArgs) (s : State) : Host.Outcome State Fault Refusal := runStep (deviceFrame 0xEB f) s

/-- The device's `write` (42_transaction_primitives.md R212): an array write on one line in SPI mode. -/
def execOpWrite (f : FrameArgs) (s : State) : Host.Outcome State Fault Refusal := runStep (deviceFrame 0x02 f) s

/-- The device's `quad-write` (42_transaction_primitives.md R212): an array write on four lines in QPI mode. -/
def execOpQuadWrite (f : FrameArgs) (s : State) : Host.Outcome State Fault Refusal := runStep (deviceFrame 0x38 f) s

/-- The device's `enable-quad-mode` (42_transaction_primitives.md R212): SPI to QPI. -/
def execOpEnterQuad (f : FrameArgs) (s : State) : Host.Outcome State Fault Refusal := runStep (deviceFrame 0x35 f) s

/-- The device's `disable-quad-mode` (42_transaction_primitives.md R212): QPI to SPI. -/
def execOpExitQuad (f : FrameArgs) (s : State) : Host.Outcome State Fault Refusal := runStep (deviceFrame 0xF5 f) s

/-- The device's `reset-enable` (42_transaction_primitives.md R212): the reset is armed. -/
def execOpResetEnable (f : FrameArgs) (s : State) : Host.Outcome State Fault Refusal := runStep (deviceFrame 0x66 f) s

/-- The device's `reset` (42_transaction_primitives.md R212): an armed device resets. -/
def execOpReset (f : FrameArgs) (s : State) : Host.Outcome State Fault Refusal := runStep (deviceFrame 0x99 f) s

/-- The device's `set-burst-length` (42_transaction_primitives.md R212): the burst configuration is stored. -/
def execOpSetBurst (f : FrameArgs) (s : State) : Host.Outcome State Fault Refusal := runStep (deviceFrame 0xC0 f) s

/-- The device's `read-id` (42_transaction_primitives.md R212): the identification. -/
def execOpReadId (f : FrameArgs) (s : State) : Host.Outcome State Fault Refusal := runStep (deviceFrame 0x9F f) s

end Sys2Proof.Machine
end

