-- ==== Sys2Proof/Machine/Reserved.lean ====
section
/-! DEFINITION. The reserved selectors of the command port (30_encoding.md R133): presenting one is `Unsupported`. -/

namespace Sys2Proof.Machine

/-- A reserved selector is presented (30_encoding.md R133, 60_exceptions.md R262). -/
def reservedOp (sel : BitVec 5) (s : State) : Host.Outcome State Fault Refusal :=
  runOp [raise (.unsupported (.reservedSelector sel))] s

/-- Selector 0x0E (30_encoding.md R133). -/
def execReserved0E (s : State) : Host.Outcome State Fault Refusal := reservedOp 0x0E s

/-- Selector 0x0F (30_encoding.md R133). -/
def execReserved0F (s : State) : Host.Outcome State Fault Refusal := reservedOp 0x0F s

/-- Selector 0x13 (30_encoding.md R133). -/
def execReserved13 (s : State) : Host.Outcome State Fault Refusal := reservedOp 0x13 s

/-- Selector 0x14 (30_encoding.md R133). -/
def execReserved14 (s : State) : Host.Outcome State Fault Refusal := reservedOp 0x14 s

/-- Selector 0x15 (30_encoding.md R133). -/
def execReserved15 (s : State) : Host.Outcome State Fault Refusal := reservedOp 0x15 s

/-- Selector 0x16 (30_encoding.md R133). -/
def execReserved16 (s : State) : Host.Outcome State Fault Refusal := reservedOp 0x16 s

/-- Selector 0x17 (30_encoding.md R133). -/
def execReserved17 (s : State) : Host.Outcome State Fault Refusal := reservedOp 0x17 s

/-- Selector 0x18 (30_encoding.md R133). -/
def execReserved18 (s : State) : Host.Outcome State Fault Refusal := reservedOp 0x18 s

/-- Selector 0x19 (30_encoding.md R133). -/
def execReserved19 (s : State) : Host.Outcome State Fault Refusal := reservedOp 0x19 s

/-- Selector 0x1A (30_encoding.md R133). -/
def execReserved1A (s : State) : Host.Outcome State Fault Refusal := reservedOp 0x1A s

/-- Selector 0x1B (30_encoding.md R133). -/
def execReserved1B (s : State) : Host.Outcome State Fault Refusal := reservedOp 0x1B s

/-- Selector 0x1C (30_encoding.md R133). -/
def execReserved1C (s : State) : Host.Outcome State Fault Refusal := reservedOp 0x1C s

/-- Selector 0x1D (30_encoding.md R133). -/
def execReserved1D (s : State) : Host.Outcome State Fault Refusal := reservedOp 0x1D s

/-- Selector 0x1E (30_encoding.md R133). -/
def execReserved1E (s : State) : Host.Outcome State Fault Refusal := reservedOp 0x1E s

/-- Selector 0x1F (30_encoding.md R133). -/
def execReserved1F (s : State) : Host.Outcome State Fault Refusal := reservedOp 0x1F s

end Sys2Proof.Machine
end

