-- ==== Sys2Proof/Machine/Dispatch.lean ====
section
/-! DEFINITION. One arm per instruction: the meaning it calls. -/

namespace Sys2Proof.Machine

/-- What an instruction does. -/
def exec (i : Instr) (s : State) : Host.Outcome State Fault Refusal :=
  match i with
  | .configure => Sys2Proof.Machine.execConfigure s
  | .denyAll => Sys2Proof.Machine.execDenyAll s
  | .allowMapped => Sys2Proof.Machine.execAllowMapped s
  | .rdid => Sys2Proof.Machine.execRdid s
  | .cmd o n => Sys2Proof.Machine.execCmd o n s
  | .wr1 o len p => Sys2Proof.Machine.execWr1 o len p s
  | .wra o n a len p => Sys2Proof.Machine.execWra o n a len p s
  | .rd1 o len => Sys2Proof.Machine.execRd1 o len s
  | .rda o n a len p => Sys2Proof.Machine.execRda o n a len p s
  | .mmapCfg => Sys2Proof.Machine.execMmapCfg s
  | .abort => Sys2Proof.Machine.execAbort s
  | .initialise => Sys2Proof.Machine.execInitialise s
  | .acquire => Sys2Proof.Machine.execAcquire s
  | .release => Sys2Proof.Machine.execRelease s
  | .init => Sys2Proof.Machine.execInit s
  | .read a len p => Sys2Proof.Machine.execRead a len p s
  | .write a len p => Sys2Proof.Machine.execWrite a len p s
  | .reserved0E => Sys2Proof.Machine.execReserved0E s
  | .reserved0F => Sys2Proof.Machine.execReserved0F s
  | .reserved13 => Sys2Proof.Machine.execReserved13 s
  | .reserved14 => Sys2Proof.Machine.execReserved14 s
  | .reserved15 => Sys2Proof.Machine.execReserved15 s
  | .reserved16 => Sys2Proof.Machine.execReserved16 s
  | .reserved17 => Sys2Proof.Machine.execReserved17 s
  | .reserved18 => Sys2Proof.Machine.execReserved18 s
  | .reserved19 => Sys2Proof.Machine.execReserved19 s
  | .reserved1A => Sys2Proof.Machine.execReserved1A s
  | .reserved1B => Sys2Proof.Machine.execReserved1B s
  | .reserved1C => Sys2Proof.Machine.execReserved1C s
  | .reserved1D => Sys2Proof.Machine.execReserved1D s
  | .reserved1E => Sys2Proof.Machine.execReserved1E s
  | .reserved1F => Sys2Proof.Machine.execReserved1F s
  | .cpuLoad a k => Sys2Proof.Machine.execCpuLoad a k s
  | .cpuStore a k v => Sys2Proof.Machine.execCpuStore a k v s
  | .cpuFetch a k => Sys2Proof.Machine.execCpuFetch a k s
  | .cpuSpec a k => Sys2Proof.Machine.execCpuSpec a k s
  | .tmwRdid => Sys2Proof.Machine.execTmwRdid s
  | .tmwCmd o il => Sys2Proof.Machine.execTmwCmd o il s
  | .tmwWr1 o => Sys2Proof.Machine.execTmwWr1 o s
  | .tmwWra o il al sz dl => Sys2Proof.Machine.execTmwWra o il al sz dl s
  | .tmwWra0 o il al sz => Sys2Proof.Machine.execTmwWra0 o il al sz s
  | .tmwRd1 o => Sys2Proof.Machine.execTmwRd1 o s
  | .tmwRda4 o il sz abl => Sys2Proof.Machine.execTmwRda4 o il sz abl s
  | .tmwRda1 o sz => Sys2Proof.Machine.execTmwRda1 o sz s
  | .tmwMmapCfg il sz abl => Sys2Proof.Machine.execTmwMmapCfg il sz abl s
  | .opRead f => Sys2Proof.Machine.execOpRead f s
  | .opFastRead f => Sys2Proof.Machine.execOpFastRead f s
  | .opQuadRead f => Sys2Proof.Machine.execOpQuadRead f s
  | .opWrite f => Sys2Proof.Machine.execOpWrite f s
  | .opQuadWrite f => Sys2Proof.Machine.execOpQuadWrite f s
  | .opEnterQuad f => Sys2Proof.Machine.execOpEnterQuad f s
  | .opExitQuad f => Sys2Proof.Machine.execOpExitQuad f s
  | .opResetEnable f => Sys2Proof.Machine.execOpResetEnable f s
  | .opReset f => Sys2Proof.Machine.execOpReset f s
  | .opSetBurst f => Sys2Proof.Machine.execOpSetBurst f s
  | .opReadId f => Sys2Proof.Machine.execOpReadId f s
  | .rgnAttrOuter srd => Sys2Proof.Machine.execRgnAttrOuter srd s
  | .rgnAttrMid srd => Sys2Proof.Machine.execRgnAttrMid srd s
  | .rgnAttrInner srd => Sys2Proof.Machine.execRgnAttrInner srd s
  | .crLoad prescaler sshift => Sys2Proof.Machine.execCrLoad prescaler sshift s
  | .dcrLoad fsize csht => Sys2Proof.Machine.execDcrLoad fsize csht s

end Sys2Proof.Machine
end

