-- ==== Sys2Proof/Machine/Present.lean ====
section
/-! DEFINITION. What the machine does with a presentation that is no row of the opcode table. Nothing is refused: a presentation has the
effect the spec gives its parts, or records the outcome the spec names for it (notes/assumptions/34.md). -/

namespace Sys2Proof.Machine

/-- A mode word no primitive writes and no rule reserves is written to `CCR` (10_state.md R35) under the checks of MMAP_CFG if it is
memory-mapped, else of the primitives (42_transaction_primitives.md R182, R206); what it then starts is R181's. -/
def writeUnlistedTmw (w : Word) (s : State) : State := tmwRow (if ccrMapped w then mmapPre else commonPre) w s

/-- The descriptor of an attribute word at `WINDOW_BASE` (30_encoding.md R121). -/
def rgnOfAttr (p : Params) (w : Word) : Rgn := ⟨w.getLsbD 0, p.windowBase, w.extractLsb' 1 5, w.extractLsb' 8 8⟩

/-- An attribute word the block never loads goes to the slot of its size class, with its `ENABLE` and `SRD` (30_encoding.md R121, R122;
20_memory.md R85); `XN` has no field (10_state.md R51). A reserved bit is `Unsupported` (30_encoding.md R121, 60_exceptions.md R262). DESIGN
CHOICE (notes/assumptions/45.md): so is a word with a permission other than NoAccess, the only one of R51, or with a size class of no
slot. -/
def loadAttr (w : Word) (s : State) : State :=
  let r := rgnOfAttr s.par w
  if w &&& 0xE8FF00C0 != 0 then raise (.unsupported .reservedRegisterBit) s
  else if w &&& 0x07000000 != 0 then raise (.unsupported .descriptorWord) s
  else if r.sizeClass == 27 then emit (.rgnLoad s.par.slotOuter r.base w) { s with rgnOuter := r }
  else if r.sizeClass == 24 then emit (.rgnLoad s.par.slotMid r.base w) { s with rgnMid := r }
  else if r.sizeClass == 23 then emit (.rgnLoad s.par.slotInner r.base w) { s with rgnInner := r }
  else raise (.unsupported .descriptorWord) s

/-- A word CONFIGURE never loads goes to `CR` as it stands; written 1, `ABORT` starts an abort, which completes at once (10_state.md R30,
R45). `TCEN` 1 is the timeout counter, which no configuration of this hardware has (93_implementation_defined.md U14). -/
def writeUnlistedCr (w : Word) (s : State) : State :=
  if w.getLsbD 3 then raise (.unsupported .parameters) s else finishAbort (loadCr w s)

/-- What a presentation does that is no row. A device opcode outside 30_encoding.md R130 is sent in its frame
(93_implementation_defined.md U15); a configuration word CONFIGURE never loads is loaded (10_state.md R30, R31, notes/assumptions/41.md);
a reserved mode word and a reserved register bit are `Unsupported` (U10, U11). -/
def presentUnlisted (e : DecodeError) : Micro :=
  match e with
  | .reservedTmw => raise (.unsupported .reservedTmw)
  | .unlistedTmw w => writeUnlistedTmw w
  | .unlistedOpcode o f => deviceFrame o f
  | .unlistedAttr w => loadAttr w
  | .unlistedCr w => writeUnlistedCr w
  | .unlistedDcr w => loadDcr w
  | .reservedRegisterBit => raise (.unsupported .reservedRegisterBit)

end Sys2Proof.Machine
end

