-- ==== Sys2Proof/Machine/Step.lean ====
section
/-! DEFINITION. One step of the machine: the next presentation is decoded and run; with none, the wire engine steps. -/

namespace Sys2Proof.Machine

/-- One step. A recorded outcome stops the machine (10_state.md R62). With nothing presented the host does nothing
(70_reset_and_hazards.md R290) and the wire engine steps, as it may while a frame is on the wire (10_state.md R21). -/
def step (s : State) : Host.Outcome State Fault Refusal :=
  match s.fault with
  | some f => .fault f
  | none =>
    match s.inputs with
    | [] => .next (wireStep s)
    | x :: rest =>
      match decode x with
      | .ok i => exec i { s with inputs := rest }
      | .error e => runStep (presentUnlisted e) { s with inputs := rest }

/-- `s` with a row's word presented next. -/
def State.withFetchWord (s : State) (nbits w : Nat) : State := { s with inputs := inputOfTable nbits w :: s.inputs }

end Sys2Proof.Machine
end

