-- ==== Sys2Proof/Safety.lean ====
section
/-! DEFINITION. The terms claims are stated in: the premises of the spec's properties, the invariants of every step, and the
states its rules say an operation ends in. -/

namespace Sys2Proof.Machine

/-! ### Premises -/

/-- Every range of 00_scope.md R6 and R7. -/
abbrev ParamsOk (p : Params) : Prop :=
  paramsLegal p = true ∧ p.windowBase.toNat % Config.spanBytes = 0 ∧ p.slotOuter < p.slotMid ∧ p.slotMid < p.slotInner
    ∧ p.fifoDepth % 4 = 0 ∧ 8 ≤ p.fifoDepth

/-- No outcome is recorded, and no other agent steps during the operation. -/
abbrev Quiet (s : State) : Prop := s.fault = none ∧ s.sched = []

/-- No frame is on the wire, nothing is in the FIFO, and no abort is pending. -/
abbrev Settled (s : State) : Prop := s.ph = .idle ∧ s.fifo = [] ∧ crAbort s.cr = false

/-- The preconditions of a primitive (42_transaction_primitives.md R182) on hardware that answers, with no other agent stepping. -/
abbrev Ready (s : State) : Prop :=
  Quiet s ∧ Settled s ∧ ParamsOk s.par ∧ s.par.responsive = true ∧ s.mode = .indirectAccess ∧ crEn s.cr = true
    ∧ windowClosed s = true ∧ s.busy = .zero

/-- Every scheduled turn is a wire-engine step or a speculative access: what may happen during an operation that no outcome
ends (44_access_library.md R253). -/
def Turn.harmless (t : Turn) : Bool :=
  match t with
  | .wire => true
  | .cpu c => c.kind == .spec
  | .present | .unwind => false

/-- A schedule of harmless turns only. -/
abbrev HarmlessSched (s : State) : Prop := ∀ slot ∈ s.sched, ∀ t ∈ slot, Turn.harmless t = true

/-- What stands between two library operations (43_bus_mode_arbitration.md R230): the window closed in IndirectAccess, or open
in MemoryMapped with the memory-mapped word in `CCR`; no frame is on the wire but a memory-mapped one that still reads ahead. -/
abbrev Bracketed (s : State) : Prop :=
  (s.mode = .indirectAccess ∧ windowClosed s = true ∧ s.busy = .zero ∧ s.ph = .idle)
    ∨ (s.mode = .memoryMapped ∧ windowOpen s = true ∧ s.ccr = tmwOfMmap s.par
      ∧ (s.ph = .idle ∨ s.ph = .data ∧ s.busy = .drawn))

/-- A state in which the library may be called: INIT has ended, the device is in QPI mode, the hardware answers. -/
abbrev LibraryReady (s : State) : Prop :=
  s.fault = none ∧ s.fifo = [] ∧ crAbort s.cr = false ∧ ParamsOk s.par ∧ s.par.responsive = true ∧ crEn s.cr = true
    ∧ s.devMode = .qpi ∧ Bracketed s

/-- An interrupted state (60_exceptions.md R273): whatever an operation cut short may leave. -/
abbrev Interrupted (s : State) : Prop :=
  s.mode ≠ .uninitialized ∧ s.cr = crWord s.par ∧ s.dcr = dcrWord s.par ∧ (windowOpen s = true ∨ windowClosed s = true)

/-- The six primitives that `common_pre` guards (42_transaction_primitives.md R182). -/
def isPrimitive (i : Instr) : Bool :=
  match i with
  | .rdid | .cmd .. | .wr1 .. | .wra .. | .rd1 .. | .rda .. => true
  | _ => false

/-- A host operation: a selector of the command port (30_encoding.md R126, R133). -/
def isOperation (i : Instr) : Bool :=
  match i with
  | .configure | .denyAll | .allowMapped | .rdid | .cmd .. | .wr1 .. | .wra .. | .rd1 .. | .rda .. | .mmapCfg | .abort
  | .initialise | .acquire | .release | .init | .read .. | .write .. | .reserved0E | .reserved0F | .reserved13 | .reserved14
  | .reserved15 | .reserved16 | .reserved17 | .reserved18 | .reserved19 | .reserved1A | .reserved1B | .reserved1C
  | .reserved1D | .reserved1E | .reserved1F => true
  | _ => false

/-- The first `wait until` of a primitive whose operands pass its checks (42_transaction_primitives.md R190 to R203, R217). -/
def firstWait (i : Instr) : Option Wait :=
  match i with
  | .rdid => some .fifoByteReady
  | .cmd .. => some .transferComplete
  | .wr1 _ len _ => if len = 2 then some .transferComplete else none
  | .wra _ _ _ len _ => some (if len = 0 then .transferComplete else .fifoNotFull)
  | .rd1 _ len => if 1 ≤ len.toNat ∧ len.toNat ≤ 4 then some .transferComplete else none
  | .rda o n _ len p =>
    if len = 0 ∨ (n = .one ∧ o = 0x0B) then none
    else some (if p.toNat % 4 = 0 ∧ 4 ≤ len.toNat then .fifoWordReady else .fifoByteReady)
  | _ => none

/-- A frame of the instruction alone. -/
def Bare (f : FrameArgs) : Prop := f = ⟨f.ilines, none, none, 0, .absent⟩

/-- The rows of the table of 42_transaction_primitives.md R212, for a frame with opcode `o` on the lines the device listens on; a
phase the table does not name is absent, and lines it does not name are its mode's (notes/assumptions/17.md). -/
def TableAnswers (s : State) (o : Byte) (f : FrameArgs) : Prop :=
  (s.devMode = .spi ∧ f.ilines = .one
    ∧ ((o = 0x9F ∧ ∃ a, f = ⟨.one, some ⟨.one, .a24, a⟩, none, 0, .read .one 7⟩)
      ∨ (o = 0x35 ∧ Bare f)
      ∨ (o = 0x03 ∧ ∃ z a last, f = ⟨.one, some ⟨.one, z, a⟩, none, 0, .read .one last⟩)
      ∨ (o = 0x02 ∧ ∃ z a d, f = ⟨.one, some ⟨.one, z, a⟩, none, 0, d⟩ ∧ (d = .absent ∨ ∃ bs, d = .write .one bs))
      ∨ (o = 0xC0 ∧ ∃ b0 b1, f = ⟨.one, none, none, 0, .write .one [b0, b1]⟩)))
  ∨ (s.devMode = .qpi ∧ f.ilines = s.par.quadIlines
    ∧ ((o = 0xF5 ∧ Bare f)
      ∨ (o = 0xEB ∧ ∃ z a alt last, (∀ x, alt = some x → x.lines = .four)
        ∧ f = ⟨s.par.quadIlines, some ⟨.four, z, a⟩, alt, 6, .read .four last⟩)
      ∨ (o = 0x38 ∧ ∃ z a d, f = ⟨s.par.quadIlines, some ⟨.four, z, a⟩, none, 0, d⟩
        ∧ (d = .absent ∨ ∃ bs, d = .write .four bs))))
  ∨ ((s.devMode = .spi ∧ f.ilines = .one ∨ s.devMode = .qpi ∧ f.ilines = s.par.quadIlines) ∧ Bare f
    ∧ (o = 0x66 ∨ (o = 0x99 ∧ s.devResetArmed = true)))

/-- The operations that write `mode`: the arbitration operations (10_state.md R24) and the macro-operations made of them. -/
def writesMode (i : Instr) : Bool :=
  match i with
  | .initialise | .acquire | .release | .init | .read .. | .write .. => true
  | _ => false

/-- The operations that load `DCR` and enable the pins: CONFIGURE, those made of it, and the single loads. -/
def writesConfig (i : Instr) : Bool :=
  match i with
  | .configure | .initialise | .init | .dcrLoad .. => true
  | _ => false

/-- The operations that store to the caller's buffer. -/
def writesBuffer (i : Instr) : Bool :=
  match i with
  | .rda .. | .read .. => true
  | _ => false

/-- The operations that load descriptors: DENY_ALL, ALLOW_MAPPED, those made of them, and the single loads. -/
def writesWindow (i : Instr) : Bool :=
  match i with
  | .denyAll | .allowMapped | .rgnAttrOuter _ | .rgnAttrMid _ | .rgnAttrInner _ => true
  | _ => writesMode i

/-! ### Invariants of every step -/

/-- The wire: a frame on it means `SR.BUSY = 1`, or a memory-mapped frame; the FIFO holds something only while `SR.BUSY = 1`, and at
most its depth; `nCS` is high exactly when there is no frame; the clock idles low; the lines are not driven between frames
(10_state.md R39 to R42). -/
abbrev WireInv (s : State) : Prop :=
  (s.ph ≠ .idle → s.busy = .one ∨ s.busy = .drawn ∧ ccrMapped s.ccr = true) ∧ (s.busy ≠ .one → s.fifo = [])
    ∧ s.nCS = (s.ph == .idle) ∧ s.clk = false ∧ (s.ph = .idle → s.io = .undriven) ∧ s.fifo.length ≤ s.par.fifoDepth

/-- The registers: reserved bits read 0, no abort is pending unless an outcome is recorded, and `CCR` holds no reserved word
(10_state.md R30, R31, 30_encoding.md R132). `CCR = 0` is its reset value. -/
abbrev RegInv (s : State) : Prop :=
  s.cr &&& 0x00FFE024 = 0 ∧ (s.fault = none → crAbort s.cr = false) ∧ s.dcr &&& 0xFFE0F8FD = 0
    ∧ (s.ccr = 0 ∨ reservedTmw s.ccr = false)

/-- `Wedged` is recorded: the state of the block is no longer defined (60_exceptions.md R260, R265). -/
def isWedged (s : State) : Bool :=
  match s.fault with
  | some (.wedged ..) => true
  | _ => false

/-- The memories: canonical form, and nothing listed beyond the device's capacity. -/
abbrev MemInv (s : State) : Prop :=
  s.psram.wf = true ∧ s.buf.wf = true ∧ ∀ c ∈ s.psram, c.1 < capBytes s.par

/-- Everything a step keeps. -/
abbrev Inv (s : State) : Prop := (isWedged s = false → WireInv s ∧ RegInv s) ∧ MemInv s ∧ s.unwound = false

/-! ### What the rules say of the state afterwards -/

/-- The command and diagnostic outputs of an operation that ended normally. -/
def ended (s : State) : State := { s with opDone := true, diagValid := false, unwound := false }

/-- The command and diagnostic outputs of an operation that raised an outcome. -/
def stopped (f : Fault) (s : State) : State :=
  { s with opDone := false, diagValid := false, unwound := false, fault := some f }

/-- The descriptors and events of one bracket (41_protection_window.md R162), `irq_enabled` as it was. -/
def bracketed (outer mid inner : Rgn) (s : State) : State :=
  { s with
    rgnOuter := outer, rgnMid := mid, rgnInner := inner, irqSaved := s.irqEnabled
    trace := s.trace ++
      [.irqMask, .rgnLoad s.par.slotOuter outer.base (rgnAttr outer), .rgnLoad s.par.slotMid mid.base (rgnAttr mid),
        .rgnLoad s.par.slotInner inner.base (rgnAttr inner), .irqRestore s.irqEnabled] }

/-- DENY_ALL's bracket (41_protection_window.md R163). -/
def closed (s : State) : State := bracketed (rgnOuterWith s.par 0) (rgnMidWith s.par 0) (rgnInnerWith s.par 0) s

/-- ALLOW_MAPPED's bracket (41_protection_window.md R165). -/
def opened (s : State) : State :=
  bracketed (rgnOuterWith s.par (srdOuter (capBytes s.par))) (rgnMidWith s.par (srdMid (capBytes s.par)))
    (rgnInnerWith s.par (srdInner (capBytes s.par))) s

/-- The controller after a frame that ended normally (42_transaction_primitives.md R185), `bytes` moved. -/
def transferred (bytes : List Byte) (s : State) : State :=
  { s with
    tcf := true, busy := .zero, fifo := [], ph := .idle, wireBytes := bytes, nCS := true, clk := false, io := .undriven }

/-- Bytes read from the device by one frame of shape `f`. -/
def answered (s : State) (f : FrameShape) (n : Nat) : List Byte := devBytes s (answerTo s f) 0 n s.draws

/-- The device after one complete frame of shape `f` that carried `bytes` to it (42_transaction_primitives.md R211 to R216). -/
def deviceAfter (f : FrameShape) (bytes : List Byte) (s : State) : State :=
  deviceEnd (answerTo s f) bytes (devWriteBytes (answerTo s f) 0 bytes (deviceLatch (answerTo s f) s))

/-- The controller after CONFIGURE (40_bus_config.md R151, R156). -/
def configured (s : State) : State :=
  { s with
    pinsEnabled := true, cr := crWord s.par, dcr := dcrWord s.par, dlr := 0, ccr := 0, ar := 0, abr := 0, tcf := false
    busy := .zero, fifo := [], ph := .idle, wireBytes := [], nCS := true, clk := false, io := .undriven
    trace := s.trace ++ .periphReset :: (if s.ph = .idle then [] else [.frame (currentFrame s true)])
      ++ [.cfgLoad (crWord s.par) (dcrWord s.par)] }

/-- Mode and event (10_state.md R24, R61). -/
def modeSet (m : Mode) (s : State) : State := { s with mode := m, trace := s.trace ++ [.modeChange m] }

/-- The controller after an abort (10_state.md R45). -/
def aborted (s : State) : State :=
  { s with
    ph := .idle, nCS := true, clk := false, io := .undriven, fifo := [], tcf := false, busy := .zero
    cr := crClearAbort (crSetAbort s.cr)
    trace := s.trace ++ .abortReq :: (if s.ph = .idle then [] else [.frame (currentFrame s true)]) }

/-- MMAP_CFG's writes (42_transaction_primitives.md R206). -/
def mapped (s : State) : State :=
  { s with
    abr := if s.par.altEn then Config.altValue.setWidth 32 else s.abr, ccr := tmwOfMmap s.par
    trace := s.trace ++ [.tmwWrite (tmwOfMmap s.par)] }

/-- What ACQUIRE reads in `SR.BUSY` (10_state.md R42, notes/assumptions/13.md). -/
def busyReads (s : State) : Bool :=
  match s.busy with
  | .zero => false
  | .one => true
  | .drawn => s.ph != .idle || Config.drawBusy s.draws

/-- The state after that read. -/
def busyRead (s : State) : State := { s with draws := if s.busy = .drawn ∧ s.ph = .idle then s.draws + 1 else s.draws }

/-- After ACQUIRE (43_bus_mode_arbitration.md R224): the window closed, what was left over aborted, the mode. -/
def acquired (s : State) : State :=
  let c := closed (busyRead s)
  modeSet .indirectAccess (if busyReads s then aborted c else { c with busy := .zero })

/-- After RELEASE (43_bus_mode_arbitration.md R226). -/
def released (s : State) : State := modeSet .memoryMapped (opened (mapped s))

/-- The registers as a primitive loaded them, then one frame of shape `f` (42_transaction_primitives.md R185): one `TmwWrite` and
one `Frame` event, `moved` on the wire, of which `toDevice` went to the device. -/
def frameDone (f : FrameShape) (moved toDevice : List Byte) (s : State) : State :=
  transferred moved (deviceAfter f toDevice
    { s with trace := s.trace ++ [.tmwWrite s.ccr, .frame (frameRecord f false false moved)] })

/-- The frames of the primitives (42_transaction_primitives.md R190, R193, R195, R198, R200, R202, R205). -/
def rdidFrame : FrameShape := ⟨.one, 0x9F, some ⟨.one, .a24, 0⟩, none, 0, some ⟨.one, .read, 8⟩⟩
def cmdFrame (o : Byte) (n : Lines) : FrameShape := ⟨n, o, none, none, 0, none⟩
def wr1Frame (o : Byte) : FrameShape := ⟨.one, o, none, none, 0, some ⟨.one, .write, 2⟩⟩
def wraFrame (p : Params) (o : Byte) (n : Lines) (a len : Word) : FrameShape :=
  ⟨ciLines p n, o, some ⟨n, asizeOf a.toNat, a⟩, none, 0, if len = 0 then none else some ⟨n, .write, len.toNat⟩⟩
def rd1Frame (o : Byte) (len : Word) : FrameShape := ⟨.one, o, none, none, 0, some ⟨.one, .read, len.toNat⟩⟩
def rdaFrame (p : Params) (o : Byte) (n : Lines) (a len : Word) : FrameShape :=
  match n with
  | .four =>
    ⟨ciLines p .four, o, some ⟨.four, asizeOf a.toNat, a⟩, if p.altEn then some ⟨.four, Config.altValue⟩ else none, 6,
      some ⟨.four, .read, len.toNat⟩⟩
  | .one => ⟨.one, o, some ⟨.one, asizeOf a.toNat, a⟩, none, 0, some ⟨.one, .read, len.toNat⟩⟩

/-- The identification is reported (42_transaction_primitives.md R191). -/
def reported (id : List Byte) : Bool := !(id.all (· == 0x00)) && !(id.all (· == 0xFF))

/-- The states after the primitives. Those that read use up one draw a byte (notes/assumptions/27.md). -/
def cmdDone (o : Byte) (n : Lines) (s : State) : State := frameDone (cmdFrame o n) [] [] { s with ccr := tmwOfCmd o n }
def wr1Done (o : Byte) (p : Word) (s : State) : State :=
  frameDone (wr1Frame o) (bufRead s p.toNat 2) (bufRead s p.toNat 2) { s with dlr := 1, ccr := tmwOfWr1 o }
def wraDone (o : Byte) (n : Lines) (a len p : Word) (s : State) : State :=
  frameDone (wraFrame s.par o n a len) (bufRead s p.toNat len.toNat) (bufRead s p.toNat len.toNat)
    { s with dlr := if len = 0 then s.dlr else len - 1, ccr := tmwOfWra s.par o n a len, ar := a }
def rd1Done (o : Byte) (len : Word) (s : State) : State :=
  let bytes := answered s (rd1Frame o len) len.toNat
  { frameDone (rd1Frame o len) bytes [] { s with dlr := len - 1, ccr := tmwOfRd1 o, opWord := leWord bytes } with
    draws := s.draws + len.toNat }
def rdaDone (o : Byte) (n : Lines) (a len p : Word) (s : State) : State :=
  let bytes := answered s (rdaFrame s.par o n a len) len.toNat
  { frameDone (rdaFrame s.par o n a len) bytes []
      { s with
        dlr := len - 1, ccr := tmwOfRda s.par o n a, ar := a
        abr := if n = .four ∧ s.par.altEn = true then Config.altValue.setWidth 32 else s.abr } with
    draws := s.draws + len.toNat, buf := s.buf.writeList p.toNat bytes }
def rdidDone (s : State) : State :=
  { frameDone rdidFrame (answered s rdidFrame 8) [] { s with dlr := 7, ccr := tmwRdidWord, ar := 0 } with
    draws := s.draws + 8 }

/-- RDID's report, if there is one (42_transaction_primitives.md R191). -/
def withReport (id : List Byte) (s : State) : State :=
  if reported id then { s with diagValid := true, diagBytes := diagWord id, trace := s.trace ++ [.diag id] } else s

/-- A mode word by itself (42_transaction_primitives.md R181): a frame starts when it is indirect without an Addr phase. -/
def modeWordWritten (w : Word) (s : State) : State :=
  let starts := ccrIndirect w && ccrAl w == 0b00
  { s with
    ccr := w, busy := if starts then .one else .zero, ph := if starts then .instr else s.ph
    wireBytes := if starts then [] else s.wireBytes, nCS := if starts then false else s.nCS
    trace := s.trace ++ [.tmwWrite w] }

/-- The device when no rule answers a frame (42_transaction_primitives.md R211), which moved `moved`; `n` bytes were read. The controller
is as it was (notes/assumptions/46.md). -/
def unanswered (f : FrameShape) (moved : List Byte) (n : Nat) (s : State) : State :=
  { s with
    devMode := .unknown, psram := [], psramEpoch := s.psramEpoch + 1, draws := s.draws + n
    trace := s.trace ++ [.frame (frameRecord f false false moved)] }

/-- A frame handed to the device that answers it: its event. The controller is as it was (notes/assumptions/46.md). -/
def framed (o : Byte) (f : FrameArgs) (moved : List Byte) (s : State) : State :=
  { s with trace := s.trace ++ [.frame (frameRecord (shapeOfArgs o f) false false moved)] }

/-- Byte `i` of a read of the array from `a` (42_transaction_primitives.md R213), the first draw being `d`. -/
def arrayBytes (s : State) (a n d : Nat) : List Byte :=
  (List.range n).map fun i => if a + i < capBytes s.par then psramByte s (a + i) else Config.drawByte (d + i)

/-- The memory-mapped frame on the wire has moved all its bytes and left it (44_access_library.md R251). -/
def prefetchEnded (s : State) : State :=
  let rest := s.mapLen - s.wireBytes.length
  let bytes := s.wireBytes ++ devBytes s (answerTo s s.shape) s.wireBytes.length rest s.draws
  { s with
    ph := .idle, nCS := true, clk := false, io := .undriven, wireBytes := bytes, draws := s.draws + rest
    trace := s.trace ++ [.frame (frameRecord s.shape true false bytes)] }

/-- The events that are not the CPU's. -/
def ownEvents (es : List Event) : List Event :=
  es.filter fun e => match e with
    | .cpuAccess .. => false
    | _ => true

/-- How many bits of a mask are 1 (41_protection_window.md R168). -/
def popcount (m : Byte) : Nat := (List.range 8).countP fun j => m.getLsbD j

/-- One read or write of bytes outside a range leaves the rest: every byte of `buf` outside `[p, p + n)`. -/
def bufKeptOutside (s t : State) (p n : Nat) : Prop := ∀ q, (q < p ∨ p + n ≤ q) → bufByte t q = bufByte s q

/-- Every byte of `psram` outside `[a, a + n)`. -/
def psramKeptOutside (s t : State) (a n : Nat) : Prop := ∀ x, (x < a ∨ a + n ≤ x) → psramByte t x = psramByte s x

end Sys2Proof.Machine
end

