-- ==== Sys2Proof/Certificates/Slice0/Obligations.lean ====
section
/-! DEFINITION. The statements for the provers. They quantify over every state and every parameter that meets the premises they
name. The states on the right of an equation are those of Sys2Proof/Safety.lean, written as updates of the state before, so an
equation states the frame too: every field it does not name is as it was. In every one of them the outputs of the command and
diagnostic ports (notes/assumptions/23.md), the counter of draws (27.md), and that an operation ends with its frame off the wire
(15.md) are the model's own. -/

open Sys2Proof Sys2Proof.Machine

/-! ### Decoding and stepping -/

/-- Decoding what the encoder writes gives the instruction back, with every operand at every value. The encoder follows
30_encoding.md R111 to R114, R121, R126, R128, R130; where operands lie behind the first byte is the model's
(notes/assumptions/4.md). -/
def Obligations.DecodeEncodeRoundTrip : Prop :=
  ∀ i : Instr, WellFormed i = true → decode (encode i) = .ok i

/-- Words written out from 30_encoding.md R122, R126, R128, R130 and 10_state.md R30, R31 decode to what they stand for. Where the
operands of the command port and of the CPU port lie behind the first byte, the code 2 of `cpu_size`, and the shape byte of a frame
are the model's own (notes/assumptions/4.md). -/
def Obligations.SpecWordsDecode : Prop :=
  decode ⟨.op, [0x0C]⟩ = .ok .acquire
    ∧ decode ⟨.op, [0x04, 0x35]⟩ = .ok (.cmd 0x35 .one)
    ∧ decode ⟨.op, [0x11, 0, 0, 0x00, 0x01, 0, 0, 5, 0, 0, 0, 0x01, 0x20, 0, 0x20]⟩ = .ok (.read 0x100 5 0x20002001)
    ∧ decode ⟨.op, [0x13]⟩ = .ok .reserved13
    ∧ decode ⟨.cpu, [3, 2, 0x00, 0x01, 0x00, 0x90]⟩ = .ok (.cpuSpec 0x90000100 .b4)
    ∧ decode ⟨.tmw, [0x38, 0x2F, 0x00, 0x03]⟩ = .ok (.tmwWra 0x38 .four .four .a24 .four)
    ∧ decode ⟨.tmw, [0xEB, 0xFF, 0x18, 0x0F]⟩ = .ok (.tmwMmapCfg .four .a32 (some .four))
    ∧ decode ⟨.opc8, [0x35]⟩ = .ok (.opEnterQuad ⟨.one, none, none, 0, .absent⟩)
    ∧ decode ⟨.rgn, [0x31, 0x03, 0x00, 0x10]⟩ = .ok (.rgnAttrMid 0x03)
    ∧ decode ⟨.cfg, [0x11, 0x03, 0x00, 0x02]⟩ = .ok (.crLoad 2 true)
    ∧ decode ⟨.cfg, [0x02, 0x03, 0x16, 0x00]⟩ = .ok (.dcrLoad 22 3)

/-- A step runs the instruction that is presented and takes the presentation off the queue; with nothing presented it is one
step of the wire engine, which changes nothing while no frame is on the wire (70_reset_and_hazards.md R290, 10_state.md R21).
Nothing is refused: whatever is presented, rows and others, a step with no outcome recorded answers a next state. The queue is the
model's (notes/assumptions/3.md), and so is what a presentation that is no row does (34.md). -/
def Obligations.StepRunsDecodedInstruction : Prop :=
  (∀ (s : State) (x : Input) (rest : List Input) (i : Instr),
    s.fault = none → s.inputs = x :: rest → decode x = .ok i → step s = exec i { s with inputs := rest })
    ∧ (∀ s : State, s.fault = none → s.inputs = [] →
      step s = .next (wireStep s) ∧ (s.ph = .idle → crAbort s.cr = false → step s = .next s))
    ∧ (∀ s : State, s.fault = none → ∃ t : State, step s = .next t)

/-- A recorded outcome is never cleared by any later step, CONFIGURE and INITIALIZE included (10_state.md R62, 60_exceptions.md R260).
That every later step and every instruction then answers that fault, so that nothing runs after it, is read from the two rules
(notes/assumptions/9.md). -/
def Obligations.RecordedOutcomeIsNeverCleared : Prop :=
  ∀ (s : State) (f : Fault), s.fault = some f → step s = .fault f ∧ ∀ i : Instr, exec i s = .fault f

/-- Reserved encodings are `Unsupported` when presented: every reserved selector (30_encoding.md R133), changing nothing but the
outputs, and every reserved mode word on the mode-word port (R132, 93_implementation_defined.md U10). -/
def Obligations.ReservedEncodingsAreUnsupported : Prop :=
  (∀ s : State, Quiet s →
    ∀ p ∈ [(Instr.reserved0E, 0x0E#5), (.reserved0F, 0x0F#5), (.reserved13, 0x13#5), (.reserved14, 0x14#5),
        (.reserved15, 0x15#5), (.reserved16, 0x16#5), (.reserved17, 0x17#5), (.reserved18, 0x18#5), (.reserved19, 0x19#5),
        (.reserved1A, 0x1A#5), (.reserved1B, 0x1B#5), (.reserved1C, 0x1C#5), (.reserved1D, 0x1D#5), (.reserved1E, 0x1E#5),
        (.reserved1F, 0x1F#5)],
      exec p.1 s = .next (stopped (.unsupported (.reservedSelector p.2)) s))
    ∧ (∀ (s : State) (w : Word) (rest : List Input),
      s.fault = none → s.inputs = tmwInput w :: rest → reservedTmw w = true →
        step s = .next { s with inputs := rest, fault := some (.unsupported .reservedTmw) })

/-! ### What every step keeps -/

/-- The invariant holds after reset. The power-on values it rests on are the model's (notes/assumptions/6.md, 28.md). -/
def Obligations.ResetMeetsInvariant : Prop := Inv State.reset

/-- Every step that answers a next state keeps the invariant: the wire, the flags, the FIFO and the pins agree (10_state.md R39 to R42),
the reserved bits read 0, no abort is left pending where no outcome is recorded, both memories keep their canonical form. After
`Wedged` only the memories are spoken of. Four clauses are the model's: `CLK` is low in every state, a frame on the wire included, and an
idle wire is not driven (notes/assumptions/28.md); an operation that was cut short leaves no abort pending (32.md); `SR.BUSY` is a draw
while a memory-mapped frame is on the wire (13.md, 19.md); the form of the memories (8.md). -/
def Obligations.StepKeepsInvariant : Prop :=
  ∀ s t : State, Inv s → step s = .next t → Inv t

/-- The block never leaves `irq_enabled` different from how it found it (10_state.md R53), and no step changes the straps. That this
holds of a step that ends in `Wedged` too is read from R53 (notes/assumptions/10.md). -/
def Obligations.StepKeepsIrqEnabled : Prop :=
  ∀ s t : State, step s = .next t → t.irqEnabled = s.irqEnabled ∧ t.par = s.par

/-- The trace is append-only (10_state.md R60). -/
def Obligations.TraceIsAppendOnly : Prop :=
  ∀ s t : State, step s = .next t → ∃ es : List Event, t.trace = s.trace ++ es

/-- Who writes what, under every schedule of the other agents: `mode` only the arbitration operations (10_state.md R24), the
descriptors only DENY_ALL, ALLOW_MAPPED, what is made of them, and the single loads (R50); `DCR` and the pins only CONFIGURE and
what is made of it, and the single load (R31, R46); `op_word` only RD1; the buffer only RDA and READ (R57). All but the buffer, which
is the caller's, are the block's, and nothing is said of them when the step ends in `Wedged` (60_exceptions.md R260); that the buffer is
kept then too is the model's (notes/assumptions/10.md). -/
def Obligations.StateIsWrittenOnlyByItsOperations : Prop :=
  ∀ (i : Instr) (s t : State), exec i s = .next t →
    (isWedged t = false →
      (writesMode i = false → t.mode = s.mode)
        ∧ (writesWindow i = false → t.rgnOuter = s.rgnOuter ∧ t.rgnMid = s.rgnMid ∧ t.rgnInner = s.rgnInner)
        ∧ (writesConfig i = false → t.dcr = s.dcr ∧ t.pinsEnabled = s.pinsEnabled)
        ∧ ((∀ o n, i ≠ .rd1 o n) → t.opWord = s.opWord))
      ∧ (writesBuffer i = false → t.buf = s.buf)

/-! ### The protection window -/

/-- The window is closed exactly when every address of the span is denied (10_state.md R52), whatever the descriptors hold. -/
def Obligations.WindowClosedIffAllDenied : Prop :=
  ∀ s : State, windowClosed s = true ↔ ∀ a : Nat, inSpan s.par a = true → allowed s a = false

/-- The window is open exactly when, in the span, the valid sub-range and nothing else is allowed (10_state.md R52). -/
def Obligations.WindowOpenIffExactlyValidAllowed : Prop :=
  ∀ s : State, windowOpen s = true ↔ ∀ a : Nat, inSpan s.par a = true → (allowed s a = true ↔ inValid s.par a = true)

/-- DENY_ALL's bracket and its events (41_protection_window.md R162, R163), and that the window is closed after it. -/
def Obligations.DenyAllClosesWindow : Prop :=
  ∀ s : State, Quiet s → exec .denyAll s = .next (ended (closed s)) ∧ windowClosed (closed s) = true

/-- ALLOW_MAPPED's bracket and its events (41_protection_window.md R162, R165), and that the window is open after it. -/
def Obligations.AllowMappedOpensWindow : Prop :=
  ∀ s : State, Quiet s →
    exec .allowMapped s = .next (ended (opened s)) ∧ (ParamsOk s.par → windowOpen (opened s) = true)

/-- 41_protection_window.md R168: which addresses each region fails to match after ALLOW_MAPPED, that `allowed` is the
conjunction, and that it is exactly the valid sub-range. -/
def Obligations.AllowMappedPermitsExactlyTheCapacity : Prop :=
  ∀ (s : State) (x : Nat), ParamsOk s.par → x < Config.spanBytes →
    let t := opened s
    let a := spanBase s.par + x
    (rgnMatches t.rgnOuter a = false ↔ x < 2 ^ 25 * popcount t.rgnOuter.srd)
      ∧ (rgnMatches t.rgnMid a = false ↔ 2 ^ 25 ≤ x ∨ x < 2 ^ 22 * popcount t.rgnMid.srd)
      ∧ (rgnMatches t.rgnInner a = false ↔ 2 ^ 24 ≤ x ∨ x < 2 ^ 21 * popcount t.rgnInner.srd)
      ∧ (allowed t a = true ↔
        rgnMatches t.rgnOuter a = false ∧ rgnMatches t.rgnMid a = false ∧ rgnMatches t.rgnInner a = false)
      ∧ (allowed t a = true ↔ x < capBytes s.par)

/-- 41_protection_window.md R167: the masks and the attribute words of every legal capacity. -/
def Obligations.MasksAndAttributesOfEveryCapacity : Prop :=
  ∀ p : Params,
    ∀ row ∈ [(24, 0x01#8, 0x01#8, 0x01#8, 0x10000137#32, 0x10000131#32, 0x1000012F#32),
        (25, 0x01, 0x01, 0x03, 0x10000137, 0x10000131, 0x1000032F), (26, 0x01, 0x03, 0x0F, 0x10000137, 0x10000331, 0x10000F2F),
        (27, 0x01, 0x0F, 0xFF, 0x10000137, 0x10000F31, 0x1000FF2F), (28, 0x01, 0xFF, 0xFF, 0x10000137, 0x1000FF31, 0x1000FF2F),
        (29, 0x03, 0xFF, 0xFF, 0x10000337, 0x1000FF31, 0x1000FF2F), (30, 0x0F, 0xFF, 0xFF, 0x10000F37, 0x1000FF31, 0x1000FF2F),
        (31, 0xFF, 0xFF, 0xFF, 0x1000FF37, 0x1000FF31, 0x1000FF2F)],
      p.capLog2Bits = row.1 →
        capBytes p = 2 ^ (row.1 - 3)
          ∧ srdOuter (capBytes p) = row.2.1 ∧ srdMid (capBytes p) = row.2.2.1 ∧ srdInner (capBytes p) = row.2.2.2.1
          ∧ rgnAttr (rgnOuterWith p (srdOuter (capBytes p))) = row.2.2.2.2.1
          ∧ rgnAttr (rgnMidWith p (srdMid (capBytes p))) = row.2.2.2.2.2.1
          ∧ rgnAttr (rgnInnerWith p (srdInner (capBytes p))) = row.2.2.2.2.2.2

/-- While the window is closed a speculative access anywhere changes nothing but the trace (44_access_library.md R253), so a primitive
runs as if it were alone (42_transaction_primitives.md R185): under any schedule of wire steps and speculative accesses it ends in the
state it ends in without one, and but for the CPU's accesses its trace is the same. Where they may come in is the model's
(notes/assumptions/18.md). -/
def Obligations.ClosedWindowShutsSpeculationOut : Prop :=
  (∀ (s : State) (a : Word) (k : CpuSize), windowClosed s = true →
    ∃ e : Event, takeTurn (.cpu ⟨.spec, a, k⟩) s = { s with trace := s.trace ++ [e] })
    ∧ (∀ (i : Instr) (s : State), isPrimitive i = true → Ready { s with sched := [] } → HarmlessSched s →
      ∃ t u : State, exec i s = .next t ∧ exec i { s with sched := [] } = .next u
        ∧ t = { u with sched := t.sched, trace := t.trace } ∧ ownEvents t.trace = ownEvents u.trace)

/-- RGN_ATTR.OUTER, RGN_ATTR.MID, RGN_ATTR.INNER load one slot each with the attribute word of 30_encoding.md R122, CR.load and
DCR.load one register each with the word of 10_state.md R30, R31. Words that are no row are loaded too: an attribute word with `ENABLE` 0
disables the slot of its size class (30_encoding.md R121, 20_memory.md R85), a `CR` word with `EN` 0 and a `DCR` word with `CSAR` 0 are held
as they are. That these are steps of their own, and that DCR.load emits `CfgLoad`, is the model's (notes/assumptions/2.md, 25.md, 41.md,
45.md). -/
def Obligations.RegisterRowsLoadOneRegister : Prop :=
  ∀ (s : State) (m : Byte) (pre : Byte) (ss : Bool) (fs : BitVec 5) (ht : BitVec 3) (rest : List Input), s.fault = none →
    exec (.rgnAttrOuter m) s = .next { s with
        rgnOuter := ⟨true, s.par.windowBase, 27, m⟩
        trace := s.trace ++ [.rgnLoad s.par.slotOuter s.par.windowBase (0x10000037 ||| (m.setWidth 32 <<< 8))] }
      ∧ exec (.rgnAttrMid m) s = .next { s with
        rgnMid := ⟨true, s.par.windowBase, 24, m⟩
        trace := s.trace ++ [.rgnLoad s.par.slotMid s.par.windowBase (0x10000031 ||| (m.setWidth 32 <<< 8))] }
      ∧ exec (.rgnAttrInner m) s = .next { s with
        rgnInner := ⟨true, s.par.windowBase, 23, m⟩
        trace := s.trace ++ [.rgnLoad s.par.slotInner s.par.windowBase (0x1000002F ||| (m.setWidth 32 <<< 8))] }
      ∧ exec (.crLoad pre ss) s = .next { s with
        cr := (pre.setWidth 32 <<< 24) ||| 0x00000300 ||| (if ss then 0x10 else 0) ||| 0x00000001 }
      ∧ exec (.dcrLoad fs ht) s = .next { s with
        dcr := (fs.setWidth 32 <<< 16) ||| (ht.setWidth 32 <<< 8) ||| 0x00000002
        trace := s.trace ++ [.cfgLoad s.cr ((fs.setWidth 32 <<< 16) ||| (ht.setWidth 32 <<< 8) ||| 0x00000002)] }
      ∧ step { s with inputs := ⟨.rgn, leBytes (0x10000036 ||| (m.setWidth 32 <<< 8))⟩ :: rest } = .next { s with
        inputs := rest, rgnOuter := ⟨false, s.par.windowBase, 27, m⟩
        trace := s.trace ++ [.rgnLoad s.par.slotOuter s.par.windowBase (0x10000036 ||| (m.setWidth 32 <<< 8))] }
      ∧ step { s with inputs := ⟨.rgn, leBytes (0x10000030 ||| (m.setWidth 32 <<< 8))⟩ :: rest } = .next { s with
        inputs := rest, rgnMid := ⟨false, s.par.windowBase, 24, m⟩
        trace := s.trace ++ [.rgnLoad s.par.slotMid s.par.windowBase (0x10000030 ||| (m.setWidth 32 <<< 8))] }
      ∧ step { s with inputs := ⟨.rgn, leBytes (0x1000002E ||| (m.setWidth 32 <<< 8))⟩ :: rest } = .next { s with
        inputs := rest, rgnInner := ⟨false, s.par.windowBase, 23, m⟩
        trace := s.trace ++ [.rgnLoad s.par.slotInner s.par.windowBase (0x1000002E ||| (m.setWidth 32 <<< 8))] }
      ∧ step { s with inputs := ⟨.cfg, leBytes ((pre.setWidth 32 <<< 24) ||| 0x00000310)⟩ :: rest } = .next { s with
        inputs := rest, cr := (pre.setWidth 32 <<< 24) ||| 0x00000310 }
      ∧ step { s with inputs := ⟨.cfg, leBytes ((fs.setWidth 32 <<< 16) ||| (ht.setWidth 32 <<< 8))⟩ :: rest } = .next { s with
        inputs := rest, dcr := (fs.setWidth 32 <<< 16) ||| (ht.setWidth 32 <<< 8)
        trace := s.trace ++ [.cfgLoad s.cr ((fs.setWidth 32 <<< 16) ||| (ht.setWidth 32 <<< 8))] }

/-! ### CONFIGURE -/

/-- CONFIGURE (40_bus_config.md R151, R156): registers, flags, FIFO, pins, events, the frame it cuts off; everything else is as it
was (R157). The two words are those of 10_state.md R30, R31. That `PeriphReset` stands before the frame that is cut off is read from
the order of R151's lines (notes/assumptions/26.md). -/
def Obligations.ConfigureResetsAndLoads : Prop :=
  ∀ s : State, Quiet s → paramsLegal s.par = true →
    exec .configure s = .next (ended (configured s))
      ∧ crWord s.par = BitVec.ofNat 32 ((s.par.prescaler - 1) * 2 ^ 24 + 3 * 2 ^ 8 + (if s.par.sampleShift then 16 else 0) + 1)
      ∧ dcrWord s.par = BitVec.ofNat 32 ((s.par.capLog2Bits - 4) * 2 ^ 16 + (s.par.csHighCycles - 1) * 2 ^ 8 + 2)

/-- CONFIGURE is refused before any state changes unless every parameter is in its range (40_bus_config.md R155). -/
def Obligations.ConfigureRefusesIllegalParameters : Prop :=
  ∀ s : State, Quiet s →
    (s.par.prescaler < 1 ∨ 256 < s.par.prescaler ∨ s.par.timeoutEn = true ∨ s.par.csHighCycles < 1 ∨ 8 < s.par.csHighCycles
      ∨ s.par.capLog2Bits < 24 ∨ 31 < s.par.capLog2Bits) →
      exec .configure s = .next (stopped (.unsupported .parameters) s)

/-- 40_bus_config.md R153: CONFIGURE twice leaves the registers, flags, FIFO, `ph` and pins that CONFIGURE once leaves; each run
appends its own `PeriphReset` and `CfgLoad`. -/
def Obligations.ConfigureTwiceIsOnce : Prop :=
  ∀ s : State, Quiet s → paramsLegal s.par = true →
    ∃ t u : State, exec .configure s = .next t ∧ exec .configure t = .next u
      ∧ u = { t with trace := t.trace ++ [.periphReset, .cfgLoad (crWord s.par) (dcrWord s.par)] }

/-! ### The transaction primitives -/

/-- Address size selection: 30_encoding.md R115, with its boundary; that it is made from the start address alone, in WRA and RDA;
that RDID always sends 24 bits of value 0. -/
def Obligations.AddressSizeBoundary : Prop :=
  (∀ a : Word, asizeOf a.toNat = if 0x01000000 ≤ a.toNat then .a32 else .a24)
    ∧ asizeOf 0x00FFFFFF = .a24 ∧ asizeOf 0x01000000 = .a32
    ∧ (∀ (p : Params) (o : Byte) (n : Lines) (a len : Word),
      (tmwOfWra p o n a len).extractLsb' 12 2 = (if 0x01000000 ≤ a.toNat then 0b11 else 0b10)
        ∧ (tmwOfRda p o n a).extractLsb' 12 2 = (if 0x01000000 ≤ a.toNat then 0b11 else 0b10))
    ∧ tmwRdidWord.extractLsb' 12 2 = 0b10 ∧ rdidFrame.addr = some ⟨.one, .a24, 0⟩

/-- 30_encoding.md R128: the mode word of every primitive, field by field. `c`, `ci` and `s` are the line and size codes. -/
def Obligations.ModeWordsOfThePrimitives : Prop :=
  ∀ (p : Params) (o : Byte) (n : Lines) (a len : Word),
    let w : Word := o.setWidth 32
    let c : Word := match n with
      | .one => 1
      | .four => 3
    let ci4 : Word := match p.quadIlines with
      | .one => 1
      | .four => 3
    let ci : Word := match n with
      | .one => 1
      | .four => ci4
    let sz : Word := if 0x01000000 ≤ a.toNat then 3 else 2
    let abl : Word := if p.altEn then 3 else 0
    let mm : Word := if 0x01000000 < capBytes p then 3 else 2
    tmwRdidWord = 0x0500259F
      ∧ tmwOfCmd o n = w ||| (c <<< 8)
      ∧ tmwOfWr1 o = 0x01000100 ||| w
      ∧ tmwOfWra p o n a len = w ||| (ci <<< 8) ||| (c <<< 10) ||| (sz <<< 12) ||| ((if len = 0 then 0 else c) <<< 24)
      ∧ tmwOfRd1 o = 0x05000100 ||| w
      ∧ tmwOfRda p o .four a
        = w ||| (ci4 <<< 8) ||| (3 <<< 10) ||| (sz <<< 12) ||| (abl <<< 14) ||| (6 <<< 18) ||| (3 <<< 24) ||| (1 <<< 26)
      ∧ tmwOfRda p o .one a = w ||| (1 <<< 8) ||| (1 <<< 10) ||| (sz <<< 12) ||| (1 <<< 24) ||| (1 <<< 26)
      ∧ tmwOfMmap p
        = 0xEB ||| (ci4 <<< 8) ||| (3 <<< 10) ||| (mm <<< 12) ||| (abl <<< 14) ||| (6 <<< 18) ||| (3 <<< 24) ||| (3 <<< 26)

/-- The four checks common to the primitives, in their order (42_transaction_primitives.md R182), and the checks of MMAP_CFG (R206),
before any state changes. -/
def Obligations.PrimitivesCheckTheirPreconditions : Prop :=
  (∀ (i : Instr) (s : State), isPrimitive i = true → Quiet s →
    (s.mode ≠ .indirectAccess → exec i s = .next (stopped (.misuse .outsideBracket) s))
      ∧ (s.mode = .indirectAccess → crEn s.cr = false → exec i s = .next (stopped (.misuse .notConfigured) s))
      ∧ (s.mode = .indirectAccess → crEn s.cr = true → windowClosed s = false →
        exec i s = .next (stopped (.misuse .windowNotClosed) s))
      ∧ (s.mode = .indirectAccess → crEn s.cr = true → windowClosed s = true → s.busy = .one →
        exec i s = .next (stopped (.unsupported .busy) s)))
    ∧ (∀ s : State, Quiet s →
      (crEn s.cr = false → exec .mmapCfg s = .next (stopped (.misuse .notConfigured) s))
        ∧ (crEn s.cr = true → s.busy = .one → exec .mmapCfg s = .next (stopped (.unsupported .busy) s))
        ∧ (crEn s.cr = true → s.busy = .zero → s.mode ≠ .indirectAccess →
          exec .mmapCfg s = .next (stopped (.misuse .outsideBracket) s))
        ∧ (crEn s.cr = true → s.busy = .zero → s.mode = .indirectAccess → windowClosed s = false →
          exec .mmapCfg s = .next (stopped (.misuse .windowNotClosed) s)))

/-- The status register and the transaction descriptor are views. A read of `SR` gives TCF, FTF, BUSY and FLEVEL in their places and 0
elsewhere, and changes nothing but the count of draws (10_state.md R32, 20_memory.md R80); FTF by functional mode and FIFO level
(10_state.md R44), its 0 while `CCR` is 0 being read from R65 (notes/assumptions/14.md), as is what BUSY reads under a memory-mapped
frame (13.md). With the registers as each primitive loads them, `TD` is that primitive's descriptor (10_state.md R26, R27); that CMD, WR1
and RD1, which have no Addr phase, show 24 bits and the `AR` left over is the model's (47.md). -/
def Obligations.StatusAndDescriptorAreViews : Prop :=
  (∀ s : State,
    (readSr s).2 = busyRead s ∧ (readSr s).1.getLsbD 1 = s.tcf ∧ (readSr s).1.getLsbD 2 = srFtf s
      ∧ (readSr s).1.getLsbD 5 = busyReads s
      ∧ (s.fifo.length < 64 → ((readSr s).1.extractLsb' 8 6).toNat = s.fifo.length) ∧ (readSr s).1 &&& 0xFFFFC0D9 = 0
      ∧ (s.ccr ≠ 0 → ccrFm s.ccr = 0b01 → (srFtf s = true ↔ 4 ≤ s.fifo.length))
      ∧ (s.ccr ≠ 0 → ccrFm s.ccr = 0b00 → (srFtf s = true ↔ 4 ≤ s.par.fifoDepth - s.fifo.length))
      ∧ (s.ccr = 0 ∨ ccrFm s.ccr = 0b10 ∨ ccrFm s.ccr = 0b11 → srFtf s = false))
    ∧ (∀ (s : State) (o : Byte) (n : Lines) (a len : Word),
      State.td { s with ccr := tmwRdidWord, ar := 0, dlr := 7 }
          = ⟨0x9F, .one, true, some .one, .a24, 0, none, 0, some .one, .read, 8⟩
        ∧ State.td { s with ccr := tmwOfCmd o n } = ⟨o, n, false, none, .a24, s.ar, none, 0, none, .none, 0⟩
        ∧ State.td { s with ccr := tmwOfWr1 o, dlr := 1 } = ⟨o, .one, false, none, .a24, s.ar, none, 0, some .one, .write, 2⟩
        ∧ State.td { s with ccr := tmwOfWra s.par o n a len, ar := a, dlr := if len = 0 then s.dlr else len - 1 }
          = ⟨o, ciLines s.par n, true, some n, asizeOf a.toNat, a, none, 0, if len = 0 then none else some n,
            if len = 0 then .none else .write, len.toNat⟩
        ∧ (len ≠ 0 →
          State.td { s with ccr := tmwOfRd1 o, dlr := len - 1 }
              = ⟨o, .one, false, none, .a24, s.ar, none, 0, some .one, .read, len.toNat⟩
            ∧ State.td { s with ccr := tmwOfRda s.par o n a, ar := a, dlr := len - 1 }
              = ⟨o, ciLines s.par n, true, some n, asizeOf a.toNat, a,
                if n = .four ∧ s.par.altEn = true then some .four else none, if n = .four then 6 else 0, some n, .read,
                len.toNat⟩))

/-- The operand checks, before any register is written: WR1's length (42_transaction_primitives.md R196), RD1's length (R200),
RDA's length (R202), RDA on one line with opcode 0x0B (30_encoding.md R134). -/
def Obligations.OperandChecksPrecedeEveryWrite : Prop :=
  ∀ (s : State) (o : Byte) (n : Lines) (a len p : Word), Ready s →
    (len ≠ 2 → exec (.wr1 o len p) s = .next (stopped (.unsupported .wr1Length) s))
      ∧ (len.toNat < 1 ∨ 4 < len.toNat → exec (.rd1 o len) s = .next (stopped (.unsupported .rd1Length) s))
      ∧ exec (.rda o n a 0 p) s = .next (stopped (.unsupported .rdaLength) s)
      ∧ (len ≠ 0 → exec (.rda 0x0B .one a len p) s = .next (stopped (.unsupported .fastRead) s))

/-- RDID (42_transaction_primitives.md R190, R191): the registers, the frame, the eight bytes, their report. -/
def Obligations.RdidReadsAndReports : Prop :=
  ∀ s : State, Ready s →
    exec .rdid s = .next (withReport (answered s rdidFrame 8) (ended (rdidDone s)))
      ∧ (s.devMode = .spi → answered s rdidFrame 8 = s.par.deviceId.toList ∧ (rdidDone s).devMode = .spi)

/-- CMD (42_transaction_primitives.md R193): the mode word, a frame of the instruction alone; and what it does to the device (R194,
R211, R212, R216): it toggles the mode, arms and performs the device's reset; on the wrong lines it leaves the device unknown. -/
def Obligations.CmdSendsTheInstruction : Prop :=
  ∀ s : State, Ready s →
    (∀ (o : Byte) (n : Lines), exec (.cmd o n) s = .next (ended (cmdDone o n s)))
      ∧ (s.devMode = .spi → (cmdDone 0x35 .one s).devMode = .qpi ∧ (cmdDone 0x35 .one s).psram = s.psram)
      ∧ (s.devMode = .qpi →
        (cmdDone 0xF5 s.par.quadIlines s).devMode = .spi ∧ (cmdDone 0xF5 s.par.quadIlines s).psram = s.psram)
      ∧ (s.devMode = .spi → (cmdDone 0x66 .one s).devResetArmed = true)
      ∧ (s.devMode = .spi → s.devResetArmed = true →
        (cmdDone 0x99 .one s).devResetArmed = false ∧ (cmdDone 0x99 .one s).devMode = .spi ∧ (cmdDone 0x99 .one s).psram = [])
      ∧ (∀ o : Byte, s.devMode = .spi → (cmdDone o .four s).devMode = .unknown ∧ (cmdDone o .four s).psram = [])

/-- WR1 (42_transaction_primitives.md R195): two bytes of the buffer as one unit, the first one first on the wire. -/
def Obligations.Wr1SendsTwoBytes : Prop :=
  ∀ (s : State) (o : Byte) (p : Word), Ready s →
    exec (.wr1 o 2 p) s = .next (ended (wr1Done o p s))
      ∧ (s.devMode = .spi →
        (wr1Done 0xC0 p s).devBurst = bufByte s (p.toNat + 1) ++ bufByte s p.toNat ∧ (wr1Done 0xC0 p s).devMode = .spi)

/-- WRA (42_transaction_primitives.md R198, R199), of any length: the registers, one frame, every byte at the device. -/
def Obligations.WraSendsTheBuffer : Prop :=
  ∀ (s : State) (o : Byte) (n : Lines) (a len p : Word), Ready s →
    exec (.wra o n a len p) s = .next (ended (wraDone o n a len p s))

/-- RD1 (42_transaction_primitives.md R200): `op_word`, the first byte lowest, zero in the bytes not read. No rule answers the
frame, so every byte is a draw and the device is left unknown (R216). -/
def Obligations.Rd1AssemblesDraws : Prop :=
  ∀ (s : State) (o : Byte) (len : Word), Ready s → 1 ≤ len.toNat → len.toNat ≤ 4 →
    exec (.rd1 o len) s = .next (ended (rd1Done o len s))
      ∧ (rd1Done o len s).opWord = leWord ((List.range len.toNat).map fun i => Config.drawByte (s.draws + i))
      ∧ (rd1Done o len s).devMode = .unknown ∧ (rd1Done o len s).psram = []

/-- RDA (42_transaction_primitives.md R202 to R205), of any length, with any alignment of the buffer: the registers, one frame,
the bytes it answers in the buffer in their order. -/
def Obligations.RdaFillsTheBuffer : Prop :=
  ∀ (s : State) (o : Byte) (n : Lines) (a len p : Word), Ready s → len ≠ 0 → ¬(n = .one ∧ o = 0x0B) →
    exec (.rda o n a len p) s = .next (ended (rdaDone o n a len p s))

/-- MMAP_CFG (42_transaction_primitives.md R206): `ABR` where the Alt phase is used, `CCR`; no frame, the flags as they were. -/
def Obligations.MmapCfgWritesTheModeWord : Prop :=
  ∀ s : State, Quiet s → crEn s.cr = true → s.busy = .zero → s.mode = .indirectAccess → windowClosed s = true →
    exec .mmapCfg s = .next (ended (mapped s))

/-- On hardware that does not answer every primitive whose operands pass its checks starts its frame and hangs at its first wait
(42_transaction_primitives.md R217, 60_exceptions.md R263), with any operands: nothing has left the wire, and `op_done` does not rise.
That the first wait is the one that never ends, even where its condition holds, is read from R217 (notes/assumptions/11.md). -/
def Obligations.UnresponsiveHardwareHangs : Prop :=
  ∀ (s : State) (i : Instr) (w : Wait),
    Quiet s → Settled s → ParamsOk s.par → s.par.responsive = false → s.mode = .indirectAccess → crEn s.cr = true →
      windowClosed s = true → s.busy = .zero → firstWait i = some w →
      ∃ t : State, exec i s = .next t ∧ t.fault = some (.hang w) ∧ t.busy = .one ∧ t.nCS = false ∧ t.tcf = false
        ∧ t.ph = .instr ∧ t.opDone = false ∧ t.trace = s.trace ++ [.tmwWrite t.ccr] ∧ t.buf = s.buf ∧ t.mode = s.mode

/-- The mode-word rows: a word written to `CCR` by itself, under the checks of the primitive that writes it, starts a frame exactly
when it is indirect without an Addr phase (42_transaction_primitives.md R181). It covers TMW.RDID, TMW.CMD, TMW.WR1, TMW.WRA,
TMW.WRA0, TMW.RD1, TMW.RDA4, TMW.RDA1 and TMW.MMAP_CFG, the word being what the encoder puts on the port; and so does every word that
30_encoding.md R132 does not reserve, one that no primitive writes too. That such a word is a step of its own is the model's
(notes/assumptions/2.md, 24.md, 34.md). -/
def Obligations.ModeWordRowsWriteCcr : Prop :=
  ∀ (w : Word) (s : State),
    s.fault = none → s.mode = .indirectAccess → crEn s.cr = true → windowClosed s = true → s.busy = .zero →
      (∀ i : Instr, encode i = tmwInput w → exec i s = .next (modeWordWritten w s))
        ∧ (∀ rest : List Input, reservedTmw w = false →
          step { s with inputs := tmwInput w :: rest } = .next (modeWordWritten w { s with inputs := rest }))

/-! ### The device -/

/-- The device opcodes without data (42_transaction_primitives.md R212, R216): ENTER_QUAD, EXIT_QUAD, RESET_ENABLE, RESET. That
a frame is handed to the device as a step of its own is the model's (notes/assumptions/2.md; 46.md: no check of R182, the
controller as it was). -/
def Obligations.DeviceModeOpcodes : Prop :=
  ∀ s : State, s.fault = none → s.ph = .idle → s.par.responsive = true →
    let one : FrameArgs := ⟨.one, none, none, 0, .absent⟩
    let quad : FrameArgs := ⟨s.par.quadIlines, none, none, 0, .absent⟩
    (s.devMode = .spi → exec (.opEnterQuad one) s = .next { framed 0x35 one [] s with devMode := .qpi })
      ∧ (s.devMode = .qpi → exec (.opExitQuad quad) s = .next { framed 0xF5 quad [] s with devMode := .spi })
      ∧ (∀ f, (s.devMode = .spi ∧ f = one ∨ s.devMode = .qpi ∧ f = quad) →
        exec (.opResetEnable f) s = .next { framed 0x66 f [] s with devResetArmed := true }
          ∧ (s.devResetArmed = true → exec (.opReset f) s = .next { framed 0x99 f [] s with
            devMode := .spi, devResetArmed := false, psram := [], psramEpoch := s.psramEpoch + 1
            devBurst := Config.drawBurst s.draws, draws := s.draws + 1 }))

/-- The device opcodes that read (42_transaction_primitives.md R212, R213, R215): READ on one line in SPI mode, QUAD_READ on four
lines in QPI mode with 6 dummy cycles and an optional Alt phase, READ_ID. The array is not changed. That a frame is handed to the
device as a step of its own is the model's (notes/assumptions/2.md; 46.md: no check of R182, the
controller as it was), and so is that the Alt phase is on four lines with any value
(17.md). -/
def Obligations.DeviceReadOpcodes : Prop :=
  ∀ (s : State) (a last : Word) (z : ASize) (alt : Option AltPhase),
    s.fault = none → s.ph = .idle → s.par.responsive = true → (∀ x, alt = some x → x.lines = .four) →
    let f1 : FrameArgs := ⟨.one, some ⟨.one, z, a⟩, none, 0, .read .one last⟩
    let f4 : FrameArgs := ⟨s.par.quadIlines, some ⟨.four, z, a⟩, alt, 6, .read .four last⟩
    let fid : FrameArgs := ⟨.one, some ⟨.one, .a24, a⟩, none, 0, .read .one 7⟩
    let n := last.toNat + 1
    let bytes := arrayBytes s a.toNat n s.draws
    (s.devMode = .spi → exec (.opRead f1) s = .next { framed 0x03 f1 bytes s with draws := s.draws + n })
      ∧ (s.devMode = .qpi → exec (.opQuadRead f4) s = .next { framed 0xEB f4 bytes s with draws := s.draws + n })
      ∧ (s.devMode = .spi →
        exec (.opReadId fid) s = .next { framed 0x9F fid s.par.deviceId.toList s with draws := s.draws + 8 })

/-- The device opcodes that write (42_transaction_primitives.md R212, R214, R216): WRITE on one line in SPI mode, QUAD_WRITE on
four lines in QPI mode, within the capacity or with no data; SET_BURST. Each byte past the capacity makes every byte of the array
unspecified (R214). That a frame is handed to the device as a step of its own is the model's (notes/assumptions/2.md; 46.md: no check of R182, the
controller as it was). -/
def Obligations.DeviceWriteOpcodes : Prop :=
  ∀ (s : State) (a : Word) (z : ASize) (bytes : List Byte) (b0 b1 : Byte),
    s.fault = none → s.ph = .idle → s.par.responsive = true →
    let f1 : FrameArgs := ⟨.one, some ⟨.one, z, a⟩, none, 0, .write .one bytes⟩
    let f4 : FrameArgs := ⟨s.par.quadIlines, some ⟨.four, z, a⟩, none, 0, .write .four bytes⟩
    let g1 : FrameArgs := ⟨.one, some ⟨.one, z, a⟩, none, 0, .absent⟩
    let g4 : FrameArgs := ⟨s.par.quadIlines, some ⟨.four, z, a⟩, none, 0, .absent⟩
    let fb : FrameArgs := ⟨.one, none, none, 0, .write .one [b0, b1]⟩
    let beyond := a.toNat + bytes.length - max a.toNat (capBytes s.par)
    (s.devMode = .spi →
      (beyond = 0 → exec (.opWrite f1) s = .next { framed 0x02 f1 bytes s with psram := s.psram.writeList a.toNat bytes })
        ∧ (beyond ≠ 0 → exec (.opWrite f1) s
          = .next { framed 0x02 f1 bytes s with psram := [], psramEpoch := s.psramEpoch + beyond })
        ∧ exec (.opWrite g1) s = .next (framed 0x02 g1 [] s)
        ∧ exec (.opSetBurst fb) s = .next { framed 0xC0 fb [b0, b1] s with devBurst := b1 ++ b0 })
      ∧ (s.devMode = .qpi →
        (beyond = 0 → exec (.opQuadWrite f4) s = .next { framed 0x38 f4 bytes s with psram := s.psram.writeList a.toNat bytes })
          ∧ (beyond ≠ 0 → exec (.opQuadWrite f4) s
            = .next { framed 0x38 f4 bytes s with psram := [], psramEpoch := s.psramEpoch + beyond })
          ∧ exec (.opQuadWrite g4) s = .next (framed 0x38 g4 [] s))

/-- A frame the device has no answer for (42_transaction_primitives.md R211): the wrong number of instruction lines, a device in
`Unknown`, or an opcode and shape that the table of R212 does not list for the mode, FAST_READ with any shape among them, and every
opcode outside 30_encoding.md R130, which is no row (93_implementation_defined.md U15). The bytes
read are draws, the device is left unknown, the array unspecified. That a frame is handed to the device as a step of its own is the
model's (notes/assumptions/2.md; 46.md: no check of R182, the
controller as it was), and so are how strictly the shapes are taken (17.md) and the bytes of the presentation (4.md). -/
def Obligations.UnansweredFramesSpoilTheDevice : Prop :=
  ∀ (s : State) (f : FrameArgs), s.fault = none → s.ph = .idle → s.par.responsive = true →
    let n : Nat := match f.data with
      | .read _ last => last.toNat + 1
      | .absent | .write .. => 0
    let moved : List Byte := match f.data with
      | .absent => []
      | .read .. => (List.range n).map fun i => Config.drawByte (s.draws + i)
      | .write _ bytes => bytes
    exec (.opFastRead f) s = .next (unanswered (shapeOfArgs 0x0B f) moved n s)
      ∧ (∀ (o : Byte) (rest : List Input), f.wf = true →
        o ∉ [0x03#8, 0x0B#8, 0xEB#8, 0x02#8, 0x38#8, 0x35#8, 0xF5#8, 0x66#8, 0x99#8, 0xC0#8, 0x9F#8] →
        step { s with inputs := ⟨.opc8, frameBytes o f⟩ :: rest }
          = .next (unanswered (shapeOfArgs o f) moved n { s with inputs := rest }))
      ∧ (∀ x ∈ [(Instr.opRead f, 0x03#8), (.opQuadRead f, 0xEB#8), (.opWrite f, 0x02#8), (.opQuadWrite f, 0x38#8),
          (.opEnterQuad f, 0x35#8), (.opExitQuad f, 0xF5#8), (.opResetEnable f, 0x66#8), (.opReset f, 0x99#8),
          (.opSetBurst f, 0xC0#8), (.opReadId f, 0x9F#8)],
        (s.devMode = .unknown ∨ s.devMode = .spi ∧ f.ilines ≠ .one ∨ s.devMode = .qpi ∧ f.ilines ≠ s.par.quadIlines →
          ¬TableAnswers s x.2 f)
          ∧ (¬TableAnswers s x.2 f → exec x.1 s = .next (unanswered (shapeOfArgs x.2 f) moved n s)))

/-- The clock cycles of each phase at one bit per line per clock; the lines carry one value per clock, and during Dummy the block
does not drive them (30_encoding.md R119). -/
def Obligations.FrameTakesOneClockPerLineValue : Prop :=
  ∀ f : Frame,
    f.wire.length = f.cycles
      ∧ (∀ (n : Lines) (d : Dir) (b : Byte), (byteClocks n d b).length = 8 / linesNat n)
      ∧ (∀ a : AddrPhase, (addrClocks a).length = (match a.size with
        | .a24 => 24
        | .a32 => 32) / linesNat a.lines)
      ∧ (dummyClocks f.dummy).length = f.dummy ∧ (∀ c ∈ dummyClocks f.dummy, c = .undriven)
      ∧ (∀ d : DataPhase, (d.bytes.flatMap (byteClocks d.lines d.dir)).length = 8 * d.bytes.length / linesNat d.lines)

/-! ### Bus mode arbitration -/

/-- INITIALIZE (43_bus_mode_arbitration.md R222): configured, then closed, then IndirectAccess; from any mode. In the trace
`PeriphReset` stands before a frame that is cut off (notes/assumptions/26.md). -/
def Obligations.InitialiseConfiguresAndCloses : Prop :=
  ∀ s : State, Quiet s → paramsLegal s.par = true →
    exec .initialise s = .next (ended (modeSet .indirectAccess (closed (configured s))))

/-- ACQUIRE (43_bus_mode_arbitration.md R224, R225): from any state an interrupted operation may leave (60_exceptions.md R273), the
window closed first, then, where `SR.BUSY` reads 1, the abort, then the mode; afterwards idle, whichever it read, in every state whose
wire, flags and pins agree (R225 (d); `StepKeepsInvariant` keeps that). That a draw that read 0 stays 0, and that it reads 1 under a
memory-mapped frame, is the model's (notes/assumptions/13.md). -/
def Obligations.AcquireRecoversTheBus : Prop :=
  ∀ s : State, Quiet s → s.mode ≠ .uninitialized → crAbort s.cr = false →
    exec .acquire s = .next (ended (acquired s))
      ∧ windowClosed (acquired s) = true ∧ (acquired s).mode = .indirectAccess ∧ (acquired s).busy = .zero
      ∧ (acquired s).cr = s.cr ∧ (acquired s).ccr = s.ccr
      ∧ (busyReads s = true ∨ WireInv s →
        (acquired s).ph = .idle ∧ (acquired s).nCS = true ∧ (acquired s).fifo = [])
      ∧ (acquired s).tcf = (if busyReads s then false else s.tcf)

/-- RELEASE (43_bus_mode_arbitration.md R226): mapped, then open, then MemoryMapped. -/
def Obligations.ReleaseMapsAndOpens : Prop :=
  ∀ s : State, Quiet s → s.mode = .indirectAccess → crEn s.cr = true → s.busy = .zero → windowClosed s = true →
    exec .release s = .next (ended (released s)) ∧ (ParamsOk s.par → windowOpen (released s) = true)

/-- ABORT (43_bus_mode_arbitration.md R228, 10_state.md R45): it completes on any hardware; a frame on the wire is recorded as
aborted, with the bytes it moved. -/
def Obligations.AbortEndsTheFrame : Prop :=
  ∀ s : State, Quiet s → crEn s.cr = true → exec .abort s = .next (ended (aborted s))

/-- The misuses that are not a primitive's (60_exceptions.md R261), each before any state changes: ACQUIRE and RELEASE in the
wrong mode, ABORT without configuration, READ and WRITE before INIT or out of range; and any operation during which a second context
presents one (43_bus_mode_arbitration.md R229), at its first place and, for INITIALIZE, at every place. The places are the model's
(notes/assumptions/18.md). -/
def Obligations.MisuseIsRecordedFirst : Prop :=
  (∀ (s : State) (a len p : Word), Quiet s →
    (s.mode = .uninitialized → exec .acquire s = .next (stopped (.misuse .acquireBeforeInitialize) s))
      ∧ (s.mode ≠ .indirectAccess → exec .release s = .next (stopped (.misuse .releaseOutsideBracket) s))
      ∧ (crEn s.cr = false → exec .abort s = .next (stopped (.misuse .abortBeforeConfigure) s))
      ∧ (len ≠ 0 → s.mode = .uninitialized → exec (.read a len p) s = .next (stopped (.misuse .readBeforeInit) s))
      ∧ (len ≠ 0 → s.mode = .uninitialized → exec (.write a len p) s = .next (stopped (.misuse .writeBeforeInit) s))
      ∧ (len ≠ 0 → s.mode ≠ .uninitialized → capBytes s.par < a.toNat + len.toNat →
        exec (.read a len p) s = .next (stopped (.misuse .rangeOutsideDevice) s)
          ∧ exec (.write a len p) s = .next (stopped (.misuse .rangeOutsideDevice) s)))
    ∧ (∀ (i : Instr) (s : State) (ts : List Turn) (rest : List (List Turn)),
      isOperation i = true → (∀ a p, i ≠ .read a 0 p ∧ i ≠ .write a 0 p) → s.fault = none → s.sched = (.present :: ts) :: rest →
        exec i s = .next (stopped (.misuse .reentrant) { s with sched := rest }))
    ∧ (∀ (s : State) (j : Nat) (ts : List Turn) (rest : List (List Turn)),
      s.fault = none → paramsLegal s.par = true → j ≤ 6 → s.sched = List.replicate j [] ++ (.present :: ts) :: rest →
        ∃ t : State, exec .initialise s = .next t ∧ t.fault = some (.misuse .reentrant) ∧ t.opDone = false ∧ t.mode = s.mode)

/-- The second-INIT interval (70_reset_and_hazards.md R318): an access of any kind, speculative included, to an address the window
permits, scheduled between CONFIGURE's peripheral reset and DENY_ALL, is `Wedged` (60_exceptions.md R265). The schedule is the model's
(notes/assumptions/18.md); the outcome and the access are recorded, the state of the block is then free, and that `op_done` does not rise is
the model's (10.md). -/
def Obligations.SecondInitIntervalWedges : Prop :=
  ∀ (s : State) (kind : CpuKind) (a : Word) (k : CpuSize) (j : Nat) (rest : List (List Turn)),
    s.fault = none → paramsLegal s.par = true → 3 ≤ j → j ≤ 5 →
      s.sched = List.replicate j [] ++ [.cpu ⟨kind, a, k⟩] :: rest →
      spanBase s.par ≤ a.toNat → a.toNat + sizeBytes k ≤ spanBase s.par + Config.spanBytes →
      allowed s a.toNat = true → allowed s (a.toNat + sizeBytes k - 1) = true →
        ∀ i ∈ [Instr.initialise, .init], ∃ t : State, exec i s = .next t ∧ t.fault = some (.wedged kind a k)
          ∧ t.trace.getLast? = some (.cpuAccess kind a k .wedged) ∧ t.opDone = false

/-! ### The access library -/

/-- INIT on a device in SPI mode (44_access_library.md R241): the registers, the device, the trace, in which `PeriphReset` stands
before a frame that is cut off (notes/assumptions/26.md). -/
def Obligations.InitBringsTheDeviceUp : Prop :=
  ∀ s : State, Quiet s → ParamsOk s.par → s.par.responsive = true → s.devMode = .spi →
    let c := modeSet .indirectAccess (closed (configured s))
    let id := s.par.deviceId.toList
    exec .init s = .next { c with
      dlr := 7, ccr := 0x00000135, tcf := true, devMode := .qpi, draws := s.draws + 8
      opDone := true, unwound := false, diagValid := reported id
      diagBytes := if reported id then diagWord id else s.diagBytes
      trace := c.trace ++ [.tmwWrite 0x0500259F, .frame (frameRecord rdidFrame false false id)]
        ++ (if reported id then [.diag id] else [])
        ++ [.tmwWrite 0x00000135, .frame (frameRecord (cmdFrame 0x35 .one) false false [])] }

/-- A second INIT (44_access_library.md R242, 40_bus_config.md R153): registers, flags, descriptors and mode as after one; the device
is lost when it listens on four lines. -/
def Obligations.SecondInitLeavesTheSameBlockState : Prop :=
  ∀ s : State, Quiet s → ParamsOk s.par → s.par.responsive = true → s.devMode = .spi →
    ∃ t u : State, exec .init s = .next t ∧ exec .init t = .next u
      ∧ u.cr = t.cr ∧ u.dcr = t.dcr ∧ u.ccr = t.ccr ∧ u.dlr = t.dlr ∧ u.ar = t.ar ∧ u.abr = t.abr
      ∧ u.tcf = t.tcf ∧ u.busy = t.busy ∧ u.fifo = t.fifo ∧ u.ph = t.ph ∧ u.mode = t.mode
      ∧ u.rgnOuter = t.rgnOuter ∧ u.rgnMid = t.rgnMid ∧ u.rgnInner = t.rgnInner ∧ u.irqEnabled = t.irqEnabled
      ∧ (s.par.quadIlines = .four → u.devMode = .unknown ∧ u.psram = [])

/-- READ (44_access_library.md R243; 30_encoding.md R141) is ACQUIRE, RDA, RELEASE in one: the whole state and the trace. -/
def Obligations.ReadIsAcquireRdaRelease : Prop :=
  ∀ (s : State) (a len p : Word), LibraryReady s → s.sched = [] → len ≠ 0 → a.toNat + len.toNat ≤ capBytes s.par →
    exec (.read a len p) s = .next (ended (released (rdaDone 0xEB .four a len p (acquired s))))

/-- WRITE (44_access_library.md R245; 30_encoding.md R141) is ACQUIRE, WRA, RELEASE in one: the whole state and the trace. -/
def Obligations.WriteIsAcquireWraRelease : Prop :=
  ∀ (s : State) (a len p : Word), LibraryReady s → s.sched = [] → len ≠ 0 → a.toNat + len.toNat ≤ capBytes s.par →
    exec (.write a len p) s = .next (ended (released (wraDone 0x38 .four a len p (acquired s))))

/-- READ under any schedule of wire steps and speculative accesses (44_access_library.md R243, R253; notes/assumptions/18.md says
where they may come in): the buffer holds the device's
bytes, nothing else of it and nothing of the array has changed, the bus is mapped and open. -/
def Obligations.ReadFillsTheBufferUnderSpeculation : Prop :=
  ∀ (s : State) (a len p : Word), LibraryReady s → HarmlessSched s → len ≠ 0 → a.toNat + len.toNat ≤ capBytes s.par →
    ∃ t : State, exec (.read a len p) s = .next t ∧ t.opDone = true ∧ LibraryReady t ∧ t.mode = .memoryMapped
      ∧ (∀ i < len.toNat, bufByte t (p.toNat + i) = psramByte s (a.toNat + i))
      ∧ bufKeptOutside s t p.toNat len.toNat ∧ (∀ x, psramByte t x = psramByte s x)

/-- WRITE under any schedule of wire steps and speculative accesses (44_access_library.md R245, R253; notes/assumptions/18.md says
where they may come in): the device holds the buffer's
bytes, nothing else of the array and nothing of the buffer has changed, the bus is mapped and open. -/
def Obligations.WriteStoresTheBufferUnderSpeculation : Prop :=
  ∀ (s : State) (a len p : Word), LibraryReady s → HarmlessSched s → len ≠ 0 → a.toNat + len.toNat ≤ capBytes s.par →
    ∃ t : State, exec (.write a len p) s = .next t ∧ t.opDone = true ∧ LibraryReady t ∧ t.mode = .memoryMapped
      ∧ (∀ i < len.toNat, psramByte t (a.toNat + i) = bufByte s (p.toNat + i))
      ∧ psramKeptOutside s t a.toNat len.toNat ∧ (∀ q, bufByte t q = bufByte s q)

/-- The round trip (44_access_library.md R247): what a WRITE took from one buffer a READ of the same range puts in another, at any
length, address, alignment and schedule of wire steps and speculative accesses (R253; notes/assumptions/18.md says where they may
come in). -/
def Obligations.WriteThenReadRoundTrip : Prop :=
  ∀ (s : State) (a len p q : Word), LibraryReady s → HarmlessSched s → a.toNat + len.toNat ≤ capBytes s.par →
    ∃ t u : State, exec (.write a len p) s = .next t ∧ exec (.read a len q) t = .next u
      ∧ ∀ i < len.toNat, bufByte u (q.toNat + i) = bufByte s (p.toNat + i)

/-- READ and WRITE of length 0 change nothing, in any mode (44_access_library.md R244); the end of the operation shows on the
command port, which is the model's (notes/assumptions/23.md). -/
def Obligations.ZeroLengthIsANoOp : Prop :=
  ∀ (s : State) (a p : Word), s.fault = none →
    exec (.read a 0 p) s = .next (ended s) ∧ exec (.write a 0 p) s = .next (ended s)

/-- The bracketing (43_bus_mode_arbitration.md R230) under every schedule at all: what INIT, READ and WRITE leave when they end
normally is again a state the library may be called in; after a READ or WRITE of at least one byte the bus is mapped and open. -/
def Obligations.LibraryKeepsTheBracketing : Prop :=
  (∀ s t : State, s.fault = none → ParamsOk s.par → s.par.responsive = true → s.devMode = .spi → s.ph = .idle →
      windowClosed s = true → exec .init s = .next t → t.fault = none → t.opDone = true → LibraryReady t)
    ∧ (∀ (s t : State) (a len p : Word), LibraryReady s →
      (exec (.read a len p) s = .next t ∨ exec (.write a len p) s = .next t) → t.fault = none → t.opDone = true →
        LibraryReady t ∧ (len ≠ 0 → t.mode = .memoryMapped ∧ windowOpen t = true ∧ t.ccr = tmwOfMmap t.par))

/-! ### The CPU's accesses through the window -/

/-- CPU.LOAD, CPU.STORE, CPU.FETCH and CPU.SPEC outside the span have no effect on the block; inside it, denied ones change nothing
but the trace, and raise `WindowDenied` unless speculative (44_access_library.md R250, 60_exceptions.md R264). -/
def Obligations.DeniedAccessesDoNothing : Prop :=
  ∀ (s : State) (a v : Word) (k : CpuSize), s.fault = none →
    ∀ x ∈ [(CpuKind.load, Instr.cpuLoad a k), (.store, .cpuStore a k v), (.fetch, .cpuFetch a k), (.spec, .cpuSpec a k)],
      (¬(spanBase s.par ≤ a.toNat ∧ a.toNat + sizeBytes k ≤ spanBase s.par + Config.spanBytes) →
        exec x.2 s = .next { s with trace := s.trace ++ [.cpuAccess x.1 a k .outside] })
        ∧ (spanBase s.par ≤ a.toNat → a.toNat + sizeBytes k ≤ spanBase s.par + Config.spanBytes →
          ¬(allowed s a.toNat = true ∧ allowed s (a.toNat + sizeBytes k - 1) = true) →
          exec x.2 s = .next { s with
            trace := s.trace ++ [.cpuAccess x.1 a k .denied]
            fault := if x.1 = .spec then none else some (.windowDenied x.1 a k) })

/-- A permitted access of any kind while the controller is not memory-mapped is `Wedged` (44_access_library.md R250, 60_exceptions.md
R265, 93_implementation_defined.md U7): the event and the outcome are recorded (10_state.md R61, R62). Nothing is said of the block
and of the device, whose state is no longer defined (R260); that the CPU's interrupt mask, the caller's buffer and `op_done` stay as they
were is the model's (notes/assumptions/10.md). -/
def Obligations.UnmappedAccessesWedge : Prop :=
  ∀ (s : State) (a v : Word) (k : CpuSize), s.fault = none →
    spanBase s.par ≤ a.toNat → a.toNat + sizeBytes k ≤ spanBase s.par + Config.spanBytes →
      allowed s a.toNat = true → allowed s (a.toNat + sizeBytes k - 1) = true →
      (crEn s.cr = false ∨ ccrMapped s.ccr = false) →
        ∀ x ∈ [(CpuKind.load, Instr.cpuLoad a k), (.store, .cpuStore a k v), (.fetch, .cpuFetch a k), (.spec, .cpuSpec a k)],
          ∃ t : State, exec x.2 s = .next t ∧ t.fault = some (.wedged x.1 a k)
            ∧ t.trace = s.trace ++ [.cpuAccess x.1 a k .wedged] ∧ t.irqEnabled = s.irqEnabled ∧ t.buf = s.buf
            ∧ t.par = s.par ∧ t.opDone = s.opDone ∧ t.inputs = s.inputs ∧ t.sched = s.sched

/-- A permitted load, fetch or speculative access in memory-mapped mode is served by one frame (44_access_library.md R250, R251):
its bytes, little-endian, on the CPU port, unless speculative; the array is as it was; `SR.BUSY` becomes a draw (10_state.md R42). That
the frame may still read ahead when the access is answered, that one still on the wire ends before the next access is served, and what
`CLK` and the lines hold while it is on the wire, is the model's (notes/assumptions/19.md, 20.md, 28.md). -/
def Obligations.MappedAccessesReadTheDevice : Prop :=
  ∀ (s : State) (a : Word) (k : CpuSize), LibraryReady s → s.mode = .memoryMapped → (s.par.altEn = true → s.abr = 0) →
    spanBase s.par ≤ a.toNat → a.toNat + sizeBytes k ≤ spanBase s.par + capBytes s.par →
      let n := sizeBytes k
      let x := a.toNat - spanBase s.par
      let ahead := readAhead s.draws n
      let moved := n + min (Config.drawMoved s.draws) ahead
      let whole := decide (ahead ≤ Config.drawMoved s.draws)
      let bytes := arrayBytes s x moved (s.draws + 1)
      let f : Frame := ⟨true, ciLines s.par .four, 0xEB, some ⟨.four, asizeMapped s.par, BitVec.ofNat 32 x⟩,
        if s.par.altEn then some ⟨.four, Config.altValue⟩ else none, 6, some ⟨.four, .read, bytes⟩, false⟩
      let served := fun kind => { s with
        busy := .drawn, wireBytes := bytes, mapAddr := BitVec.ofNat 32 x, mapLen := n + ahead, clk := false
        nCS := whole, ph := if whole then .idle else .data
        io := if whole then .undriven else .in4 ((bytes.getLastD 0).extractLsb' 0 4)
        draws := s.draws + 1 + moved, trace := s.trace ++ [.cpuAccess kind a k .mapped] ++ if whole then [.frame f] else [] }
      let word := leWord ((List.range n).map fun i => psramByte s (x + i))
      (s.ph = .idle →
        exec (.cpuLoad a k) s = .next { served .load with cpuRdata := word }
          ∧ exec (.cpuFetch a k) s = .next { served .fetch with cpuRdata := word }
          ∧ exec (.cpuSpec a k) s = .next (served .spec))
        ∧ (s.ph ≠ .idle → ∀ i ∈ [Instr.cpuLoad a k, .cpuFetch a k, .cpuSpec a k], exec i s = exec i (prefetchEnded s))

/-- A permitted store is `Unsupported` and leaves the array as it was (44_access_library.md R252). -/
def Obligations.StoresThroughTheWindowAreUnsupported : Prop :=
  ∀ (s : State) (a v : Word) (k : CpuSize), s.fault = none → crEn s.cr = true → ccrMapped s.ccr = true →
    spanBase s.par ≤ a.toNat → a.toNat + sizeBytes k ≤ spanBase s.par + Config.spanBytes →
      allowed s a.toNat = true → allowed s (a.toNat + sizeBytes k - 1) = true →
        exec (.cpuStore a k v) s = .next { s with
          trace := s.trace ++ [.cpuAccess .store a k .mapped], fault := some (.unsupported .storeThroughWindow) }

/-- A byte written by WRITE is returned by a later load through the window, and the load changes nothing of what a later READ
returns (44_access_library.md R254). -/
def Obligations.WindowIsCoherentWithWrite : Prop :=
  ∀ (s : State) (a len p : Word) (i : Nat), LibraryReady s → s.sched = [] → i < len.toNat →
    a.toNat + len.toNat ≤ capBytes s.par →
      ∃ t u : State, exec (.write a len p) s = .next t
        ∧ exec (.cpuLoad (BitVec.ofNat 32 (spanBase s.par + a.toNat + i)) .b1) t = .next u
        ∧ u.cpuRdata = (bufByte s (p.toNat + i)).setWidth 32 ∧ (∀ x, psramByte u x = psramByte t x) ∧ LibraryReady u
end

