-- ==== Sys2Proof/Laws/State.lean ====
section
/-! SUPPORT. One lemma per field per update: what an update writes, and that every other field is as it was. -/

namespace Sys2Proof.Machine

/-! ### emit -/

@[simp] theorem emit_par (e : Event) (s : State) : (emit e s).par = s.par := rfl
@[simp] theorem emit_mode (e : Event) (s : State) : (emit e s).mode = s.mode := rfl
@[simp] theorem emit_cr (e : Event) (s : State) : (emit e s).cr = s.cr := rfl
@[simp] theorem emit_dcr (e : Event) (s : State) : (emit e s).dcr = s.dcr := rfl
@[simp] theorem emit_tcf (e : Event) (s : State) : (emit e s).tcf = s.tcf := rfl
@[simp] theorem emit_busy (e : Event) (s : State) : (emit e s).busy = s.busy := rfl
@[simp] theorem emit_dlr (e : Event) (s : State) : (emit e s).dlr = s.dlr := rfl
@[simp] theorem emit_ccr (e : Event) (s : State) : (emit e s).ccr = s.ccr := rfl
@[simp] theorem emit_ar (e : Event) (s : State) : (emit e s).ar = s.ar := rfl
@[simp] theorem emit_abr (e : Event) (s : State) : (emit e s).abr = s.abr := rfl
@[simp] theorem emit_fifo (e : Event) (s : State) : (emit e s).fifo = s.fifo := rfl
@[simp] theorem emit_ph (e : Event) (s : State) : (emit e s).ph = s.ph := rfl
@[simp] theorem emit_wireBytes (e : Event) (s : State) : (emit e s).wireBytes = s.wireBytes := rfl
@[simp] theorem emit_mapAddr (e : Event) (s : State) : (emit e s).mapAddr = s.mapAddr := rfl
@[simp] theorem emit_mapLen (e : Event) (s : State) : (emit e s).mapLen = s.mapLen := rfl
@[simp] theorem emit_nCS (e : Event) (s : State) : (emit e s).nCS = s.nCS := rfl
@[simp] theorem emit_clk (e : Event) (s : State) : (emit e s).clk = s.clk := rfl
@[simp] theorem emit_io (e : Event) (s : State) : (emit e s).io = s.io := rfl
@[simp] theorem emit_pinsEnabled (e : Event) (s : State) : (emit e s).pinsEnabled = s.pinsEnabled := rfl
@[simp] theorem emit_rgnOuter (e : Event) (s : State) : (emit e s).rgnOuter = s.rgnOuter := rfl
@[simp] theorem emit_rgnMid (e : Event) (s : State) : (emit e s).rgnMid = s.rgnMid := rfl
@[simp] theorem emit_rgnInner (e : Event) (s : State) : (emit e s).rgnInner = s.rgnInner := rfl
@[simp] theorem emit_irqEnabled (e : Event) (s : State) : (emit e s).irqEnabled = s.irqEnabled := rfl
@[simp] theorem emit_irqSaved (e : Event) (s : State) : (emit e s).irqSaved = s.irqSaved := rfl
@[simp] theorem emit_psram (e : Event) (s : State) : (emit e s).psram = s.psram := rfl
@[simp] theorem emit_psramEpoch (e : Event) (s : State) : (emit e s).psramEpoch = s.psramEpoch := rfl
@[simp] theorem emit_devMode (e : Event) (s : State) : (emit e s).devMode = s.devMode := rfl
@[simp] theorem emit_devBurst (e : Event) (s : State) : (emit e s).devBurst = s.devBurst := rfl
@[simp] theorem emit_devResetArmed (e : Event) (s : State) : (emit e s).devResetArmed = s.devResetArmed := rfl
@[simp] theorem emit_buf (e : Event) (s : State) : (emit e s).buf = s.buf := rfl
@[simp] theorem emit_opDone (e : Event) (s : State) : (emit e s).opDone = s.opDone := rfl
@[simp] theorem emit_opWord (e : Event) (s : State) : (emit e s).opWord = s.opWord := rfl
@[simp] theorem emit_diagValid (e : Event) (s : State) : (emit e s).diagValid = s.diagValid := rfl
@[simp] theorem emit_diagBytes (e : Event) (s : State) : (emit e s).diagBytes = s.diagBytes := rfl
@[simp] theorem emit_cpuRdata (e : Event) (s : State) : (emit e s).cpuRdata = s.cpuRdata := rfl
@[simp] theorem emit_trace (e : Event) (s : State) : (emit e s).trace = s.trace ++ [e] := rfl
@[simp] theorem emit_fault (e : Event) (s : State) : (emit e s).fault = s.fault := rfl
@[simp] theorem emit_draws (e : Event) (s : State) : (emit e s).draws = s.draws := rfl
@[simp] theorem emit_inputs (e : Event) (s : State) : (emit e s).inputs = s.inputs := rfl
@[simp] theorem emit_sched (e : Event) (s : State) : (emit e s).sched = s.sched := rfl
@[simp] theorem emit_unwound (e : Event) (s : State) : (emit e s).unwound = s.unwound := rfl

/-! ### raise -/

@[simp] theorem raise_par (f : Fault) (s : State) : (raise f s).par = s.par := rfl
@[simp] theorem raise_mode (f : Fault) (s : State) : (raise f s).mode = s.mode := rfl
@[simp] theorem raise_cr (f : Fault) (s : State) : (raise f s).cr = s.cr := rfl
@[simp] theorem raise_dcr (f : Fault) (s : State) : (raise f s).dcr = s.dcr := rfl
@[simp] theorem raise_tcf (f : Fault) (s : State) : (raise f s).tcf = s.tcf := rfl
@[simp] theorem raise_busy (f : Fault) (s : State) : (raise f s).busy = s.busy := rfl
@[simp] theorem raise_dlr (f : Fault) (s : State) : (raise f s).dlr = s.dlr := rfl
@[simp] theorem raise_ccr (f : Fault) (s : State) : (raise f s).ccr = s.ccr := rfl
@[simp] theorem raise_ar (f : Fault) (s : State) : (raise f s).ar = s.ar := rfl
@[simp] theorem raise_abr (f : Fault) (s : State) : (raise f s).abr = s.abr := rfl
@[simp] theorem raise_fifo (f : Fault) (s : State) : (raise f s).fifo = s.fifo := rfl
@[simp] theorem raise_ph (f : Fault) (s : State) : (raise f s).ph = s.ph := rfl
@[simp] theorem raise_wireBytes (f : Fault) (s : State) : (raise f s).wireBytes = s.wireBytes := rfl
@[simp] theorem raise_mapAddr (f : Fault) (s : State) : (raise f s).mapAddr = s.mapAddr := rfl
@[simp] theorem raise_mapLen (f : Fault) (s : State) : (raise f s).mapLen = s.mapLen := rfl
@[simp] theorem raise_nCS (f : Fault) (s : State) : (raise f s).nCS = s.nCS := rfl
@[simp] theorem raise_clk (f : Fault) (s : State) : (raise f s).clk = s.clk := rfl
@[simp] theorem raise_io (f : Fault) (s : State) : (raise f s).io = s.io := rfl
@[simp] theorem raise_pinsEnabled (f : Fault) (s : State) : (raise f s).pinsEnabled = s.pinsEnabled := rfl
@[simp] theorem raise_rgnOuter (f : Fault) (s : State) : (raise f s).rgnOuter = s.rgnOuter := rfl
@[simp] theorem raise_rgnMid (f : Fault) (s : State) : (raise f s).rgnMid = s.rgnMid := rfl
@[simp] theorem raise_rgnInner (f : Fault) (s : State) : (raise f s).rgnInner = s.rgnInner := rfl
@[simp] theorem raise_irqEnabled (f : Fault) (s : State) : (raise f s).irqEnabled = s.irqEnabled := rfl
@[simp] theorem raise_irqSaved (f : Fault) (s : State) : (raise f s).irqSaved = s.irqSaved := rfl
@[simp] theorem raise_psram (f : Fault) (s : State) : (raise f s).psram = s.psram := rfl
@[simp] theorem raise_psramEpoch (f : Fault) (s : State) : (raise f s).psramEpoch = s.psramEpoch := rfl
@[simp] theorem raise_devMode (f : Fault) (s : State) : (raise f s).devMode = s.devMode := rfl
@[simp] theorem raise_devBurst (f : Fault) (s : State) : (raise f s).devBurst = s.devBurst := rfl
@[simp] theorem raise_devResetArmed (f : Fault) (s : State) : (raise f s).devResetArmed = s.devResetArmed := rfl
@[simp] theorem raise_buf (f : Fault) (s : State) : (raise f s).buf = s.buf := rfl
@[simp] theorem raise_opDone (f : Fault) (s : State) : (raise f s).opDone = s.opDone := rfl
@[simp] theorem raise_opWord (f : Fault) (s : State) : (raise f s).opWord = s.opWord := rfl
@[simp] theorem raise_diagValid (f : Fault) (s : State) : (raise f s).diagValid = s.diagValid := rfl
@[simp] theorem raise_diagBytes (f : Fault) (s : State) : (raise f s).diagBytes = s.diagBytes := rfl
@[simp] theorem raise_cpuRdata (f : Fault) (s : State) : (raise f s).cpuRdata = s.cpuRdata := rfl
@[simp] theorem raise_trace (f : Fault) (s : State) : (raise f s).trace = s.trace := rfl
@[simp] theorem raise_fault (f : Fault) (s : State) : (raise f s).fault = some f := rfl
@[simp] theorem raise_draws (f : Fault) (s : State) : (raise f s).draws = s.draws := rfl
@[simp] theorem raise_inputs (f : Fault) (s : State) : (raise f s).inputs = s.inputs := rfl
@[simp] theorem raise_sched (f : Fault) (s : State) : (raise f s).sched = s.sched := rfl
@[simp] theorem raise_unwound (f : Fault) (s : State) : (raise f s).unwound = s.unwound := rfl

/-! ### setMode -/

@[simp] theorem setMode_par (m : Mode) (s : State) : (setMode m s).par = s.par := rfl
@[simp] theorem setMode_mode (m : Mode) (s : State) : (setMode m s).mode = m := rfl
@[simp] theorem setMode_cr (m : Mode) (s : State) : (setMode m s).cr = s.cr := rfl
@[simp] theorem setMode_dcr (m : Mode) (s : State) : (setMode m s).dcr = s.dcr := rfl
@[simp] theorem setMode_tcf (m : Mode) (s : State) : (setMode m s).tcf = s.tcf := rfl
@[simp] theorem setMode_busy (m : Mode) (s : State) : (setMode m s).busy = s.busy := rfl
@[simp] theorem setMode_dlr (m : Mode) (s : State) : (setMode m s).dlr = s.dlr := rfl
@[simp] theorem setMode_ccr (m : Mode) (s : State) : (setMode m s).ccr = s.ccr := rfl
@[simp] theorem setMode_ar (m : Mode) (s : State) : (setMode m s).ar = s.ar := rfl
@[simp] theorem setMode_abr (m : Mode) (s : State) : (setMode m s).abr = s.abr := rfl
@[simp] theorem setMode_fifo (m : Mode) (s : State) : (setMode m s).fifo = s.fifo := rfl
@[simp] theorem setMode_ph (m : Mode) (s : State) : (setMode m s).ph = s.ph := rfl
@[simp] theorem setMode_wireBytes (m : Mode) (s : State) : (setMode m s).wireBytes = s.wireBytes := rfl
@[simp] theorem setMode_mapAddr (m : Mode) (s : State) : (setMode m s).mapAddr = s.mapAddr := rfl
@[simp] theorem setMode_mapLen (m : Mode) (s : State) : (setMode m s).mapLen = s.mapLen := rfl
@[simp] theorem setMode_nCS (m : Mode) (s : State) : (setMode m s).nCS = s.nCS := rfl
@[simp] theorem setMode_clk (m : Mode) (s : State) : (setMode m s).clk = s.clk := rfl
@[simp] theorem setMode_io (m : Mode) (s : State) : (setMode m s).io = s.io := rfl
@[simp] theorem setMode_pinsEnabled (m : Mode) (s : State) : (setMode m s).pinsEnabled = s.pinsEnabled := rfl
@[simp] theorem setMode_rgnOuter (m : Mode) (s : State) : (setMode m s).rgnOuter = s.rgnOuter := rfl
@[simp] theorem setMode_rgnMid (m : Mode) (s : State) : (setMode m s).rgnMid = s.rgnMid := rfl
@[simp] theorem setMode_rgnInner (m : Mode) (s : State) : (setMode m s).rgnInner = s.rgnInner := rfl
@[simp] theorem setMode_irqEnabled (m : Mode) (s : State) : (setMode m s).irqEnabled = s.irqEnabled := rfl
@[simp] theorem setMode_irqSaved (m : Mode) (s : State) : (setMode m s).irqSaved = s.irqSaved := rfl
@[simp] theorem setMode_psram (m : Mode) (s : State) : (setMode m s).psram = s.psram := rfl
@[simp] theorem setMode_psramEpoch (m : Mode) (s : State) : (setMode m s).psramEpoch = s.psramEpoch := rfl
@[simp] theorem setMode_devMode (m : Mode) (s : State) : (setMode m s).devMode = s.devMode := rfl
@[simp] theorem setMode_devBurst (m : Mode) (s : State) : (setMode m s).devBurst = s.devBurst := rfl
@[simp] theorem setMode_devResetArmed (m : Mode) (s : State) : (setMode m s).devResetArmed = s.devResetArmed := rfl
@[simp] theorem setMode_buf (m : Mode) (s : State) : (setMode m s).buf = s.buf := rfl
@[simp] theorem setMode_opDone (m : Mode) (s : State) : (setMode m s).opDone = s.opDone := rfl
@[simp] theorem setMode_opWord (m : Mode) (s : State) : (setMode m s).opWord = s.opWord := rfl
@[simp] theorem setMode_diagValid (m : Mode) (s : State) : (setMode m s).diagValid = s.diagValid := rfl
@[simp] theorem setMode_diagBytes (m : Mode) (s : State) : (setMode m s).diagBytes = s.diagBytes := rfl
@[simp] theorem setMode_cpuRdata (m : Mode) (s : State) : (setMode m s).cpuRdata = s.cpuRdata := rfl
@[simp] theorem setMode_trace (m : Mode) (s : State) : (setMode m s).trace = s.trace ++ [.modeChange m] := rfl
@[simp] theorem setMode_fault (m : Mode) (s : State) : (setMode m s).fault = s.fault := rfl
@[simp] theorem setMode_draws (m : Mode) (s : State) : (setMode m s).draws = s.draws := rfl
@[simp] theorem setMode_inputs (m : Mode) (s : State) : (setMode m s).inputs = s.inputs := rfl
@[simp] theorem setMode_sched (m : Mode) (s : State) : (setMode m s).sched = s.sched := rfl
@[simp] theorem setMode_unwound (m : Mode) (s : State) : (setMode m s).unwound = s.unwound := rfl

/-! ### bufWrite -/

@[simp] theorem bufWrite_par (p : Nat) (bs : List Byte) (s : State) : (bufWrite p bs s).par = s.par := rfl
@[simp] theorem bufWrite_mode (p : Nat) (bs : List Byte) (s : State) : (bufWrite p bs s).mode = s.mode := rfl
@[simp] theorem bufWrite_cr (p : Nat) (bs : List Byte) (s : State) : (bufWrite p bs s).cr = s.cr := rfl
@[simp] theorem bufWrite_dcr (p : Nat) (bs : List Byte) (s : State) : (bufWrite p bs s).dcr = s.dcr := rfl
@[simp] theorem bufWrite_tcf (p : Nat) (bs : List Byte) (s : State) : (bufWrite p bs s).tcf = s.tcf := rfl
@[simp] theorem bufWrite_busy (p : Nat) (bs : List Byte) (s : State) : (bufWrite p bs s).busy = s.busy := rfl
@[simp] theorem bufWrite_dlr (p : Nat) (bs : List Byte) (s : State) : (bufWrite p bs s).dlr = s.dlr := rfl
@[simp] theorem bufWrite_ccr (p : Nat) (bs : List Byte) (s : State) : (bufWrite p bs s).ccr = s.ccr := rfl
@[simp] theorem bufWrite_ar (p : Nat) (bs : List Byte) (s : State) : (bufWrite p bs s).ar = s.ar := rfl
@[simp] theorem bufWrite_abr (p : Nat) (bs : List Byte) (s : State) : (bufWrite p bs s).abr = s.abr := rfl
@[simp] theorem bufWrite_fifo (p : Nat) (bs : List Byte) (s : State) : (bufWrite p bs s).fifo = s.fifo := rfl
@[simp] theorem bufWrite_ph (p : Nat) (bs : List Byte) (s : State) : (bufWrite p bs s).ph = s.ph := rfl
@[simp] theorem bufWrite_wireBytes (p : Nat) (bs : List Byte) (s : State) : (bufWrite p bs s).wireBytes = s.wireBytes := rfl
@[simp] theorem bufWrite_mapAddr (p : Nat) (bs : List Byte) (s : State) : (bufWrite p bs s).mapAddr = s.mapAddr := rfl
@[simp] theorem bufWrite_mapLen (p : Nat) (bs : List Byte) (s : State) : (bufWrite p bs s).mapLen = s.mapLen := rfl
@[simp] theorem bufWrite_nCS (p : Nat) (bs : List Byte) (s : State) : (bufWrite p bs s).nCS = s.nCS := rfl
@[simp] theorem bufWrite_clk (p : Nat) (bs : List Byte) (s : State) : (bufWrite p bs s).clk = s.clk := rfl
@[simp] theorem bufWrite_io (p : Nat) (bs : List Byte) (s : State) : (bufWrite p bs s).io = s.io := rfl
@[simp] theorem bufWrite_pinsEnabled (p : Nat) (bs : List Byte) (s : State) : (bufWrite p bs s).pinsEnabled = s.pinsEnabled := rfl
@[simp] theorem bufWrite_rgnOuter (p : Nat) (bs : List Byte) (s : State) : (bufWrite p bs s).rgnOuter = s.rgnOuter := rfl
@[simp] theorem bufWrite_rgnMid (p : Nat) (bs : List Byte) (s : State) : (bufWrite p bs s).rgnMid = s.rgnMid := rfl
@[simp] theorem bufWrite_rgnInner (p : Nat) (bs : List Byte) (s : State) : (bufWrite p bs s).rgnInner = s.rgnInner := rfl
@[simp] theorem bufWrite_irqEnabled (p : Nat) (bs : List Byte) (s : State) : (bufWrite p bs s).irqEnabled = s.irqEnabled := rfl
@[simp] theorem bufWrite_irqSaved (p : Nat) (bs : List Byte) (s : State) : (bufWrite p bs s).irqSaved = s.irqSaved := rfl
@[simp] theorem bufWrite_psram (p : Nat) (bs : List Byte) (s : State) : (bufWrite p bs s).psram = s.psram := rfl
@[simp] theorem bufWrite_psramEpoch (p : Nat) (bs : List Byte) (s : State) : (bufWrite p bs s).psramEpoch = s.psramEpoch := rfl
@[simp] theorem bufWrite_devMode (p : Nat) (bs : List Byte) (s : State) : (bufWrite p bs s).devMode = s.devMode := rfl
@[simp] theorem bufWrite_devBurst (p : Nat) (bs : List Byte) (s : State) : (bufWrite p bs s).devBurst = s.devBurst := rfl
@[simp] theorem bufWrite_devResetArmed (p : Nat) (bs : List Byte) (s : State) : (bufWrite p bs s).devResetArmed = s.devResetArmed := rfl
@[simp] theorem bufWrite_buf (p : Nat) (bs : List Byte) (s : State) : (bufWrite p bs s).buf = s.buf.writeList p bs := rfl
@[simp] theorem bufWrite_opDone (p : Nat) (bs : List Byte) (s : State) : (bufWrite p bs s).opDone = s.opDone := rfl
@[simp] theorem bufWrite_opWord (p : Nat) (bs : List Byte) (s : State) : (bufWrite p bs s).opWord = s.opWord := rfl
@[simp] theorem bufWrite_diagValid (p : Nat) (bs : List Byte) (s : State) : (bufWrite p bs s).diagValid = s.diagValid := rfl
@[simp] theorem bufWrite_diagBytes (p : Nat) (bs : List Byte) (s : State) : (bufWrite p bs s).diagBytes = s.diagBytes := rfl
@[simp] theorem bufWrite_cpuRdata (p : Nat) (bs : List Byte) (s : State) : (bufWrite p bs s).cpuRdata = s.cpuRdata := rfl
@[simp] theorem bufWrite_trace (p : Nat) (bs : List Byte) (s : State) : (bufWrite p bs s).trace = s.trace := rfl
@[simp] theorem bufWrite_fault (p : Nat) (bs : List Byte) (s : State) : (bufWrite p bs s).fault = s.fault := rfl
@[simp] theorem bufWrite_draws (p : Nat) (bs : List Byte) (s : State) : (bufWrite p bs s).draws = s.draws := rfl
@[simp] theorem bufWrite_inputs (p : Nat) (bs : List Byte) (s : State) : (bufWrite p bs s).inputs = s.inputs := rfl
@[simp] theorem bufWrite_sched (p : Nat) (bs : List Byte) (s : State) : (bufWrite p bs s).sched = s.sched := rfl
@[simp] theorem bufWrite_unwound (p : Nat) (bs : List Byte) (s : State) : (bufWrite p bs s).unwound = s.unwound := rfl

/-! ### writeDlr -/

@[simp] theorem writeDlr_par (v : Word) (s : State) : (writeDlr v s).par = s.par := rfl
@[simp] theorem writeDlr_mode (v : Word) (s : State) : (writeDlr v s).mode = s.mode := rfl
@[simp] theorem writeDlr_cr (v : Word) (s : State) : (writeDlr v s).cr = s.cr := rfl
@[simp] theorem writeDlr_dcr (v : Word) (s : State) : (writeDlr v s).dcr = s.dcr := rfl
@[simp] theorem writeDlr_tcf (v : Word) (s : State) : (writeDlr v s).tcf = s.tcf := rfl
@[simp] theorem writeDlr_busy (v : Word) (s : State) : (writeDlr v s).busy = s.busy := rfl
@[simp] theorem writeDlr_dlr (v : Word) (s : State) : (writeDlr v s).dlr = v := rfl
@[simp] theorem writeDlr_ccr (v : Word) (s : State) : (writeDlr v s).ccr = s.ccr := rfl
@[simp] theorem writeDlr_ar (v : Word) (s : State) : (writeDlr v s).ar = s.ar := rfl
@[simp] theorem writeDlr_abr (v : Word) (s : State) : (writeDlr v s).abr = s.abr := rfl
@[simp] theorem writeDlr_fifo (v : Word) (s : State) : (writeDlr v s).fifo = s.fifo := rfl
@[simp] theorem writeDlr_ph (v : Word) (s : State) : (writeDlr v s).ph = s.ph := rfl
@[simp] theorem writeDlr_wireBytes (v : Word) (s : State) : (writeDlr v s).wireBytes = s.wireBytes := rfl
@[simp] theorem writeDlr_mapAddr (v : Word) (s : State) : (writeDlr v s).mapAddr = s.mapAddr := rfl
@[simp] theorem writeDlr_mapLen (v : Word) (s : State) : (writeDlr v s).mapLen = s.mapLen := rfl
@[simp] theorem writeDlr_nCS (v : Word) (s : State) : (writeDlr v s).nCS = s.nCS := rfl
@[simp] theorem writeDlr_clk (v : Word) (s : State) : (writeDlr v s).clk = s.clk := rfl
@[simp] theorem writeDlr_io (v : Word) (s : State) : (writeDlr v s).io = s.io := rfl
@[simp] theorem writeDlr_pinsEnabled (v : Word) (s : State) : (writeDlr v s).pinsEnabled = s.pinsEnabled := rfl
@[simp] theorem writeDlr_rgnOuter (v : Word) (s : State) : (writeDlr v s).rgnOuter = s.rgnOuter := rfl
@[simp] theorem writeDlr_rgnMid (v : Word) (s : State) : (writeDlr v s).rgnMid = s.rgnMid := rfl
@[simp] theorem writeDlr_rgnInner (v : Word) (s : State) : (writeDlr v s).rgnInner = s.rgnInner := rfl
@[simp] theorem writeDlr_irqEnabled (v : Word) (s : State) : (writeDlr v s).irqEnabled = s.irqEnabled := rfl
@[simp] theorem writeDlr_irqSaved (v : Word) (s : State) : (writeDlr v s).irqSaved = s.irqSaved := rfl
@[simp] theorem writeDlr_psram (v : Word) (s : State) : (writeDlr v s).psram = s.psram := rfl
@[simp] theorem writeDlr_psramEpoch (v : Word) (s : State) : (writeDlr v s).psramEpoch = s.psramEpoch := rfl
@[simp] theorem writeDlr_devMode (v : Word) (s : State) : (writeDlr v s).devMode = s.devMode := rfl
@[simp] theorem writeDlr_devBurst (v : Word) (s : State) : (writeDlr v s).devBurst = s.devBurst := rfl
@[simp] theorem writeDlr_devResetArmed (v : Word) (s : State) : (writeDlr v s).devResetArmed = s.devResetArmed := rfl
@[simp] theorem writeDlr_buf (v : Word) (s : State) : (writeDlr v s).buf = s.buf := rfl
@[simp] theorem writeDlr_opDone (v : Word) (s : State) : (writeDlr v s).opDone = s.opDone := rfl
@[simp] theorem writeDlr_opWord (v : Word) (s : State) : (writeDlr v s).opWord = s.opWord := rfl
@[simp] theorem writeDlr_diagValid (v : Word) (s : State) : (writeDlr v s).diagValid = s.diagValid := rfl
@[simp] theorem writeDlr_diagBytes (v : Word) (s : State) : (writeDlr v s).diagBytes = s.diagBytes := rfl
@[simp] theorem writeDlr_cpuRdata (v : Word) (s : State) : (writeDlr v s).cpuRdata = s.cpuRdata := rfl
@[simp] theorem writeDlr_trace (v : Word) (s : State) : (writeDlr v s).trace = s.trace := rfl
@[simp] theorem writeDlr_fault (v : Word) (s : State) : (writeDlr v s).fault = s.fault := rfl
@[simp] theorem writeDlr_draws (v : Word) (s : State) : (writeDlr v s).draws = s.draws := rfl
@[simp] theorem writeDlr_inputs (v : Word) (s : State) : (writeDlr v s).inputs = s.inputs := rfl
@[simp] theorem writeDlr_sched (v : Word) (s : State) : (writeDlr v s).sched = s.sched := rfl
@[simp] theorem writeDlr_unwound (v : Word) (s : State) : (writeDlr v s).unwound = s.unwound := rfl

/-! ### writeAbr -/

@[simp] theorem writeAbr_par (v : Word) (s : State) : (writeAbr v s).par = s.par := rfl
@[simp] theorem writeAbr_mode (v : Word) (s : State) : (writeAbr v s).mode = s.mode := rfl
@[simp] theorem writeAbr_cr (v : Word) (s : State) : (writeAbr v s).cr = s.cr := rfl
@[simp] theorem writeAbr_dcr (v : Word) (s : State) : (writeAbr v s).dcr = s.dcr := rfl
@[simp] theorem writeAbr_tcf (v : Word) (s : State) : (writeAbr v s).tcf = s.tcf := rfl
@[simp] theorem writeAbr_busy (v : Word) (s : State) : (writeAbr v s).busy = s.busy := rfl
@[simp] theorem writeAbr_dlr (v : Word) (s : State) : (writeAbr v s).dlr = s.dlr := rfl
@[simp] theorem writeAbr_ccr (v : Word) (s : State) : (writeAbr v s).ccr = s.ccr := rfl
@[simp] theorem writeAbr_ar (v : Word) (s : State) : (writeAbr v s).ar = s.ar := rfl
@[simp] theorem writeAbr_abr (v : Word) (s : State) : (writeAbr v s).abr = v := rfl
@[simp] theorem writeAbr_fifo (v : Word) (s : State) : (writeAbr v s).fifo = s.fifo := rfl
@[simp] theorem writeAbr_ph (v : Word) (s : State) : (writeAbr v s).ph = s.ph := rfl
@[simp] theorem writeAbr_wireBytes (v : Word) (s : State) : (writeAbr v s).wireBytes = s.wireBytes := rfl
@[simp] theorem writeAbr_mapAddr (v : Word) (s : State) : (writeAbr v s).mapAddr = s.mapAddr := rfl
@[simp] theorem writeAbr_mapLen (v : Word) (s : State) : (writeAbr v s).mapLen = s.mapLen := rfl
@[simp] theorem writeAbr_nCS (v : Word) (s : State) : (writeAbr v s).nCS = s.nCS := rfl
@[simp] theorem writeAbr_clk (v : Word) (s : State) : (writeAbr v s).clk = s.clk := rfl
@[simp] theorem writeAbr_io (v : Word) (s : State) : (writeAbr v s).io = s.io := rfl
@[simp] theorem writeAbr_pinsEnabled (v : Word) (s : State) : (writeAbr v s).pinsEnabled = s.pinsEnabled := rfl
@[simp] theorem writeAbr_rgnOuter (v : Word) (s : State) : (writeAbr v s).rgnOuter = s.rgnOuter := rfl
@[simp] theorem writeAbr_rgnMid (v : Word) (s : State) : (writeAbr v s).rgnMid = s.rgnMid := rfl
@[simp] theorem writeAbr_rgnInner (v : Word) (s : State) : (writeAbr v s).rgnInner = s.rgnInner := rfl
@[simp] theorem writeAbr_irqEnabled (v : Word) (s : State) : (writeAbr v s).irqEnabled = s.irqEnabled := rfl
@[simp] theorem writeAbr_irqSaved (v : Word) (s : State) : (writeAbr v s).irqSaved = s.irqSaved := rfl
@[simp] theorem writeAbr_psram (v : Word) (s : State) : (writeAbr v s).psram = s.psram := rfl
@[simp] theorem writeAbr_psramEpoch (v : Word) (s : State) : (writeAbr v s).psramEpoch = s.psramEpoch := rfl
@[simp] theorem writeAbr_devMode (v : Word) (s : State) : (writeAbr v s).devMode = s.devMode := rfl
@[simp] theorem writeAbr_devBurst (v : Word) (s : State) : (writeAbr v s).devBurst = s.devBurst := rfl
@[simp] theorem writeAbr_devResetArmed (v : Word) (s : State) : (writeAbr v s).devResetArmed = s.devResetArmed := rfl
@[simp] theorem writeAbr_buf (v : Word) (s : State) : (writeAbr v s).buf = s.buf := rfl
@[simp] theorem writeAbr_opDone (v : Word) (s : State) : (writeAbr v s).opDone = s.opDone := rfl
@[simp] theorem writeAbr_opWord (v : Word) (s : State) : (writeAbr v s).opWord = s.opWord := rfl
@[simp] theorem writeAbr_diagValid (v : Word) (s : State) : (writeAbr v s).diagValid = s.diagValid := rfl
@[simp] theorem writeAbr_diagBytes (v : Word) (s : State) : (writeAbr v s).diagBytes = s.diagBytes := rfl
@[simp] theorem writeAbr_cpuRdata (v : Word) (s : State) : (writeAbr v s).cpuRdata = s.cpuRdata := rfl
@[simp] theorem writeAbr_trace (v : Word) (s : State) : (writeAbr v s).trace = s.trace := rfl
@[simp] theorem writeAbr_fault (v : Word) (s : State) : (writeAbr v s).fault = s.fault := rfl
@[simp] theorem writeAbr_draws (v : Word) (s : State) : (writeAbr v s).draws = s.draws := rfl
@[simp] theorem writeAbr_inputs (v : Word) (s : State) : (writeAbr v s).inputs = s.inputs := rfl
@[simp] theorem writeAbr_sched (v : Word) (s : State) : (writeAbr v s).sched = s.sched := rfl
@[simp] theorem writeAbr_unwound (v : Word) (s : State) : (writeAbr v s).unwound = s.unwound := rfl

/-! ### startFrame -/

@[simp] theorem startFrame_par (s : State) : (startFrame s).par = s.par := rfl
@[simp] theorem startFrame_mode (s : State) : (startFrame s).mode = s.mode := rfl
@[simp] theorem startFrame_cr (s : State) : (startFrame s).cr = s.cr := rfl
@[simp] theorem startFrame_dcr (s : State) : (startFrame s).dcr = s.dcr := rfl
@[simp] theorem startFrame_tcf (s : State) : (startFrame s).tcf = s.tcf := rfl
@[simp] theorem startFrame_busy (s : State) : (startFrame s).busy = .one := rfl
@[simp] theorem startFrame_dlr (s : State) : (startFrame s).dlr = s.dlr := rfl
@[simp] theorem startFrame_ccr (s : State) : (startFrame s).ccr = s.ccr := rfl
@[simp] theorem startFrame_ar (s : State) : (startFrame s).ar = s.ar := rfl
@[simp] theorem startFrame_abr (s : State) : (startFrame s).abr = s.abr := rfl
@[simp] theorem startFrame_fifo (s : State) : (startFrame s).fifo = s.fifo := rfl
@[simp] theorem startFrame_ph (s : State) : (startFrame s).ph = .instr := rfl
@[simp] theorem startFrame_wireBytes (s : State) : (startFrame s).wireBytes = [] := rfl
@[simp] theorem startFrame_mapAddr (s : State) : (startFrame s).mapAddr = s.mapAddr := rfl
@[simp] theorem startFrame_mapLen (s : State) : (startFrame s).mapLen = s.mapLen := rfl
@[simp] theorem startFrame_nCS (s : State) : (startFrame s).nCS = false := rfl
@[simp] theorem startFrame_clk (s : State) : (startFrame s).clk = s.clk := rfl
@[simp] theorem startFrame_io (s : State) : (startFrame s).io = s.io := rfl
@[simp] theorem startFrame_pinsEnabled (s : State) : (startFrame s).pinsEnabled = s.pinsEnabled := rfl
@[simp] theorem startFrame_rgnOuter (s : State) : (startFrame s).rgnOuter = s.rgnOuter := rfl
@[simp] theorem startFrame_rgnMid (s : State) : (startFrame s).rgnMid = s.rgnMid := rfl
@[simp] theorem startFrame_rgnInner (s : State) : (startFrame s).rgnInner = s.rgnInner := rfl
@[simp] theorem startFrame_irqEnabled (s : State) : (startFrame s).irqEnabled = s.irqEnabled := rfl
@[simp] theorem startFrame_irqSaved (s : State) : (startFrame s).irqSaved = s.irqSaved := rfl
@[simp] theorem startFrame_psram (s : State) : (startFrame s).psram = s.psram := rfl
@[simp] theorem startFrame_psramEpoch (s : State) : (startFrame s).psramEpoch = s.psramEpoch := rfl
@[simp] theorem startFrame_devMode (s : State) : (startFrame s).devMode = s.devMode := rfl
@[simp] theorem startFrame_devBurst (s : State) : (startFrame s).devBurst = s.devBurst := rfl
@[simp] theorem startFrame_devResetArmed (s : State) : (startFrame s).devResetArmed = s.devResetArmed := rfl
@[simp] theorem startFrame_buf (s : State) : (startFrame s).buf = s.buf := rfl
@[simp] theorem startFrame_opDone (s : State) : (startFrame s).opDone = s.opDone := rfl
@[simp] theorem startFrame_opWord (s : State) : (startFrame s).opWord = s.opWord := rfl
@[simp] theorem startFrame_diagValid (s : State) : (startFrame s).diagValid = s.diagValid := rfl
@[simp] theorem startFrame_diagBytes (s : State) : (startFrame s).diagBytes = s.diagBytes := rfl
@[simp] theorem startFrame_cpuRdata (s : State) : (startFrame s).cpuRdata = s.cpuRdata := rfl
@[simp] theorem startFrame_trace (s : State) : (startFrame s).trace = s.trace := rfl
@[simp] theorem startFrame_fault (s : State) : (startFrame s).fault = s.fault := rfl
@[simp] theorem startFrame_draws (s : State) : (startFrame s).draws = s.draws := rfl
@[simp] theorem startFrame_inputs (s : State) : (startFrame s).inputs = s.inputs := rfl
@[simp] theorem startFrame_sched (s : State) : (startFrame s).sched = s.sched := rfl
@[simp] theorem startFrame_unwound (s : State) : (startFrame s).unwound = s.unwound := rfl

/-! ### spoilPsram -/

@[simp] theorem spoilPsram_par (s : State) : (spoilPsram s).par = s.par := rfl
@[simp] theorem spoilPsram_mode (s : State) : (spoilPsram s).mode = s.mode := rfl
@[simp] theorem spoilPsram_cr (s : State) : (spoilPsram s).cr = s.cr := rfl
@[simp] theorem spoilPsram_dcr (s : State) : (spoilPsram s).dcr = s.dcr := rfl
@[simp] theorem spoilPsram_tcf (s : State) : (spoilPsram s).tcf = s.tcf := rfl
@[simp] theorem spoilPsram_busy (s : State) : (spoilPsram s).busy = s.busy := rfl
@[simp] theorem spoilPsram_dlr (s : State) : (spoilPsram s).dlr = s.dlr := rfl
@[simp] theorem spoilPsram_ccr (s : State) : (spoilPsram s).ccr = s.ccr := rfl
@[simp] theorem spoilPsram_ar (s : State) : (spoilPsram s).ar = s.ar := rfl
@[simp] theorem spoilPsram_abr (s : State) : (spoilPsram s).abr = s.abr := rfl
@[simp] theorem spoilPsram_fifo (s : State) : (spoilPsram s).fifo = s.fifo := rfl
@[simp] theorem spoilPsram_ph (s : State) : (spoilPsram s).ph = s.ph := rfl
@[simp] theorem spoilPsram_wireBytes (s : State) : (spoilPsram s).wireBytes = s.wireBytes := rfl
@[simp] theorem spoilPsram_mapAddr (s : State) : (spoilPsram s).mapAddr = s.mapAddr := rfl
@[simp] theorem spoilPsram_mapLen (s : State) : (spoilPsram s).mapLen = s.mapLen := rfl
@[simp] theorem spoilPsram_nCS (s : State) : (spoilPsram s).nCS = s.nCS := rfl
@[simp] theorem spoilPsram_clk (s : State) : (spoilPsram s).clk = s.clk := rfl
@[simp] theorem spoilPsram_io (s : State) : (spoilPsram s).io = s.io := rfl
@[simp] theorem spoilPsram_pinsEnabled (s : State) : (spoilPsram s).pinsEnabled = s.pinsEnabled := rfl
@[simp] theorem spoilPsram_rgnOuter (s : State) : (spoilPsram s).rgnOuter = s.rgnOuter := rfl
@[simp] theorem spoilPsram_rgnMid (s : State) : (spoilPsram s).rgnMid = s.rgnMid := rfl
@[simp] theorem spoilPsram_rgnInner (s : State) : (spoilPsram s).rgnInner = s.rgnInner := rfl
@[simp] theorem spoilPsram_irqEnabled (s : State) : (spoilPsram s).irqEnabled = s.irqEnabled := rfl
@[simp] theorem spoilPsram_irqSaved (s : State) : (spoilPsram s).irqSaved = s.irqSaved := rfl
@[simp] theorem spoilPsram_psram (s : State) : (spoilPsram s).psram = [] := rfl
@[simp] theorem spoilPsram_psramEpoch (s : State) : (spoilPsram s).psramEpoch = s.psramEpoch + 1 := rfl
@[simp] theorem spoilPsram_devMode (s : State) : (spoilPsram s).devMode = s.devMode := rfl
@[simp] theorem spoilPsram_devBurst (s : State) : (spoilPsram s).devBurst = s.devBurst := rfl
@[simp] theorem spoilPsram_devResetArmed (s : State) : (spoilPsram s).devResetArmed = s.devResetArmed := rfl
@[simp] theorem spoilPsram_buf (s : State) : (spoilPsram s).buf = s.buf := rfl
@[simp] theorem spoilPsram_opDone (s : State) : (spoilPsram s).opDone = s.opDone := rfl
@[simp] theorem spoilPsram_opWord (s : State) : (spoilPsram s).opWord = s.opWord := rfl
@[simp] theorem spoilPsram_diagValid (s : State) : (spoilPsram s).diagValid = s.diagValid := rfl
@[simp] theorem spoilPsram_diagBytes (s : State) : (spoilPsram s).diagBytes = s.diagBytes := rfl
@[simp] theorem spoilPsram_cpuRdata (s : State) : (spoilPsram s).cpuRdata = s.cpuRdata := rfl
@[simp] theorem spoilPsram_trace (s : State) : (spoilPsram s).trace = s.trace := rfl
@[simp] theorem spoilPsram_fault (s : State) : (spoilPsram s).fault = s.fault := rfl
@[simp] theorem spoilPsram_draws (s : State) : (spoilPsram s).draws = s.draws := rfl
@[simp] theorem spoilPsram_inputs (s : State) : (spoilPsram s).inputs = s.inputs := rfl
@[simp] theorem spoilPsram_sched (s : State) : (spoilPsram s).sched = s.sched := rfl
@[simp] theorem spoilPsram_unwound (s : State) : (spoilPsram s).unwound = s.unwound := rfl

/-! ### beginOp -/

@[simp] theorem beginOp_par (s : State) : (beginOp s).par = s.par := rfl
@[simp] theorem beginOp_mode (s : State) : (beginOp s).mode = s.mode := rfl
@[simp] theorem beginOp_cr (s : State) : (beginOp s).cr = s.cr := rfl
@[simp] theorem beginOp_dcr (s : State) : (beginOp s).dcr = s.dcr := rfl
@[simp] theorem beginOp_tcf (s : State) : (beginOp s).tcf = s.tcf := rfl
@[simp] theorem beginOp_busy (s : State) : (beginOp s).busy = s.busy := rfl
@[simp] theorem beginOp_dlr (s : State) : (beginOp s).dlr = s.dlr := rfl
@[simp] theorem beginOp_ccr (s : State) : (beginOp s).ccr = s.ccr := rfl
@[simp] theorem beginOp_ar (s : State) : (beginOp s).ar = s.ar := rfl
@[simp] theorem beginOp_abr (s : State) : (beginOp s).abr = s.abr := rfl
@[simp] theorem beginOp_fifo (s : State) : (beginOp s).fifo = s.fifo := rfl
@[simp] theorem beginOp_ph (s : State) : (beginOp s).ph = s.ph := rfl
@[simp] theorem beginOp_wireBytes (s : State) : (beginOp s).wireBytes = s.wireBytes := rfl
@[simp] theorem beginOp_mapAddr (s : State) : (beginOp s).mapAddr = s.mapAddr := rfl
@[simp] theorem beginOp_mapLen (s : State) : (beginOp s).mapLen = s.mapLen := rfl
@[simp] theorem beginOp_nCS (s : State) : (beginOp s).nCS = s.nCS := rfl
@[simp] theorem beginOp_clk (s : State) : (beginOp s).clk = s.clk := rfl
@[simp] theorem beginOp_io (s : State) : (beginOp s).io = s.io := rfl
@[simp] theorem beginOp_pinsEnabled (s : State) : (beginOp s).pinsEnabled = s.pinsEnabled := rfl
@[simp] theorem beginOp_rgnOuter (s : State) : (beginOp s).rgnOuter = s.rgnOuter := rfl
@[simp] theorem beginOp_rgnMid (s : State) : (beginOp s).rgnMid = s.rgnMid := rfl
@[simp] theorem beginOp_rgnInner (s : State) : (beginOp s).rgnInner = s.rgnInner := rfl
@[simp] theorem beginOp_irqEnabled (s : State) : (beginOp s).irqEnabled = s.irqEnabled := rfl
@[simp] theorem beginOp_irqSaved (s : State) : (beginOp s).irqSaved = s.irqSaved := rfl
@[simp] theorem beginOp_psram (s : State) : (beginOp s).psram = s.psram := rfl
@[simp] theorem beginOp_psramEpoch (s : State) : (beginOp s).psramEpoch = s.psramEpoch := rfl
@[simp] theorem beginOp_devMode (s : State) : (beginOp s).devMode = s.devMode := rfl
@[simp] theorem beginOp_devBurst (s : State) : (beginOp s).devBurst = s.devBurst := rfl
@[simp] theorem beginOp_devResetArmed (s : State) : (beginOp s).devResetArmed = s.devResetArmed := rfl
@[simp] theorem beginOp_buf (s : State) : (beginOp s).buf = s.buf := rfl
@[simp] theorem beginOp_opDone (s : State) : (beginOp s).opDone = false := rfl
@[simp] theorem beginOp_opWord (s : State) : (beginOp s).opWord = s.opWord := rfl
@[simp] theorem beginOp_diagValid (s : State) : (beginOp s).diagValid = false := rfl
@[simp] theorem beginOp_diagBytes (s : State) : (beginOp s).diagBytes = s.diagBytes := rfl
@[simp] theorem beginOp_cpuRdata (s : State) : (beginOp s).cpuRdata = s.cpuRdata := rfl
@[simp] theorem beginOp_trace (s : State) : (beginOp s).trace = s.trace := rfl
@[simp] theorem beginOp_fault (s : State) : (beginOp s).fault = s.fault := rfl
@[simp] theorem beginOp_draws (s : State) : (beginOp s).draws = s.draws := rfl
@[simp] theorem beginOp_inputs (s : State) : (beginOp s).inputs = s.inputs := rfl
@[simp] theorem beginOp_sched (s : State) : (beginOp s).sched = s.sched := rfl
@[simp] theorem beginOp_unwound (s : State) : (beginOp s).unwound = false := rfl

/-! ### The bracket, whole -/

/-- A bracket in closed form (41_protection_window.md R162). -/
theorem loadWindow_eq_bracketed (outer mid inner : Rgn) (s : State) : loadWindow outer mid inner s = bracketed outer mid inner s := by
  simp [loadWindow, bracketed, maskIrq, restoreIrq, loadOuter, loadMid, loadInner, emit, List.append_assoc]

/-- DENY_ALL's bracket in closed form (41_protection_window.md R163). -/
theorem denyStep_eq_closed (s : State) : denyStep s = closed s := by
  simp [denyStep, closed, loadWindow_eq_bracketed]

/-- ALLOW_MAPPED's bracket in closed form (41_protection_window.md R165). -/
theorem allowStep_eq_opened (s : State) : allowStep s = opened s := by
  simp [allowStep, opened, loadWindow_eq_bracketed]

end Sys2Proof.Machine
end

