-- ==== Sys2Proof/Laws/Ops.lean ====
section
/-! SUPPORT. One lemma for each shared operation, that says once everything it can do; later proofs cite these and do not unfold
the operations. -/

namespace Sys2Proof.Machine

-- One theorem at a time, so that few threads hold a stack at once.
set_option Elab.async false

/-! ### Flags -/

/-- An operation is halted by an outcome or an unwinding. -/
theorem halted_eq_false (s : State) : halted s = false ↔ s.fault = none ∧ s.unwound = false := by
  simp [halted]

/-- `SR.BUSY` reads 0 or 1, and at most a draw is used up. -/
theorem readBusy_eq (s : State) :
    readBusy s = (busyReads s, busyRead s) := by
  rcases s with ⟨_, _, _, _, _, busy, _, _, _, _, _, ph, _⟩
  cases busy <;> cases ph <;> rfl

/-- `BUSY` falls exactly when it was 1 with an idle wire and an empty FIFO. -/
theorem refreshBusy_eq (s : State) :
    refreshBusy s = { s with busy := if s.busy = .one ∧ s.ph = .idle ∧ s.fifo = [] then .zero else s.busy } := by
  rcases s with ⟨_, _, _, _, _, busy, _, _, _, _, fifo, ph, _⟩
  cases busy <;> cases fifo <;> cases ph <;> simp [refreshBusy]

/-! ### Registers -/

/-- A mode word written while `SR.BUSY` need not read 1. -/
theorem writeTmw_eq_modeWordWritten (v : Word) (s : State) (hb' : busyHeld s = false) (hf : s.fault = none) :
    writeTmw v s = modeWordWritten v s := by
  cases h : (ccrIndirect v && ccrAl v == 0b00) <;> unfold writeTmw writeCcr <;>
    simp only [hb', h, if_true, if_false, Bool.false_eq_true, emit, startFrame, modeWordWritten, hf, Option.isSome_none]

/-- `SR.BUSY` reads 1 whenever it must. -/
theorem busyReads_of_busyHeld (s : State) (h : busyHeld s = true) : busyReads s = true := by
  rcases s with ⟨_, _, _, _, _, busy, _⟩
  cases busy <;> simp_all [busyHeld, busyReads]

/-- A mode word written while `SR.BUSY` must read 1 changes nothing. -/
theorem writeTmw_busy (v : Word) (s : State) (hb : busyHeld s = true) : writeTmw v s = raise (.unsupported .busy) s := by
  simp [writeTmw, writeCcr, hb]

/-- A write of `AR`: the register, and the start of a frame or nothing. -/
theorem writeAr_cases (a : Word) (s : State) :
    (writeAr a s = startFrame { s with ar := a } ∧ ccrIndirect s.ccr = true ∧ ccrAl s.ccr ≠ 0b00)
      ∨ writeAr a s = { s with ar := a } := by
  unfold writeAr
  simp only
  split
  next h => simp_all
  · exact .inr rfl

/-- A read of `DR`: `Unsupported`, or the first bytes of the FIFO. -/
theorem readDr_cases (k : Nat) (s : State) :
    (s.fifo.length < k ∧ readDr k s = (0, raise (.unsupported .drAccess) s))
      ∨ (k ≤ s.fifo.length ∧ readDr k s = (leWord (s.fifo.take k), refreshBusy { s with fifo := s.fifo.drop k })) := by
  unfold readDr fifoLevel
  split
  next h => exact .inl ⟨h, rfl⟩
  next h => exact .inr ⟨Nat.le_of_not_lt h, rfl⟩

/-- A write of `DR`: `Unsupported`, or bytes behind the FIFO. -/
theorem writeDr_cases (k : Nat) (v : Word) (s : State) :
    (s.par.fifoDepth - s.fifo.length < k ∧ writeDr k v s = raise (.unsupported .drAccess) s)
      ∨ (k ≤ s.par.fifoDepth - s.fifo.length ∧ writeDr k v s = { s with fifo := s.fifo ++ (leBytes v).take k }) := by
  unfold writeDr fifoLevel
  split
  next h => exact .inl ⟨h, rfl⟩
  next h => exact .inr ⟨Nat.le_of_not_lt h, rfl⟩

/-! ### The device -/

/-- A frame the device does not answer spoils it when it begins; another leaves it as it was. -/
theorem deviceLatch_cases (ans : DevAnswer) (s : State) :
    (ans = .undefined ∧ deviceLatch ans s = { spoilPsram s with devMode := .unknown })
      ∨ (ans ≠ .undefined ∧ deviceLatch ans s = s) := by
  unfold deviceLatch
  cases ans <;> simp

/-- A byte of a write frame: stored, spoiling, or without effect. -/
theorem devWriteByte_cases (ans : DevAnswer) (i : Nat) (b : Byte) (s : State) :
    (∃ a, ans = .writeMem a ∧ a + i < capBytes s.par ∧ devWriteByte ans i b s = { s with psram := s.psram.write (a + i) b })
      ∨ (∃ a, ans = .writeMem a ∧ capBytes s.par ≤ a + i ∧ devWriteByte ans i b s = spoilPsram s)
      ∨ devWriteByte ans i b s = s := by
  cases ans with
  | writeMem a =>
    by_cases h : a + i < capBytes s.par
    · exact .inl ⟨a, rfl, h, by simp [devWriteByte, h]⟩
    · exact .inr (.inl ⟨a, rfl, by omega, by simp [devWriteByte, h]⟩)
  | _ => exact .inr (.inr rfl)

/-- The end of a frame touches the device and the count of draws only. -/
theorem deviceEnd_eq (ans : DevAnswer) (bytes : List Byte) (s : State) :
    ∃ (ps : Memory) (ep : Nat) (m : DevMode) (b : BitVec 16) (r : Bool) (d : Nat),
      deviceEnd ans bytes s
          = { s with psram := ps, psramEpoch := ep, devMode := m, devBurst := b, devResetArmed := r, draws := d }
        ∧ (ps = s.psram ∨ ps = []) := by
  cases ans <;> exact ⟨_, _, _, _, _, _, rfl, by simp [spoilPsram]⟩

/-! ### The wire engine -/

/-- A requested abort completes, on any hardware. -/
theorem wireStep_abort (s : State) (h : crAbort s.cr = true) : wireStep s = completeAbort s := by
  simp [wireStep, h]

/-- Without an abort the engine does nothing on hardware that does not answer, nor on an idle wire. -/
theorem wireStep_still (s : State) (h : crAbort s.cr = false) (hs : s.par.responsive = false ∨ s.ph = .idle) : wireStep s = s := by
  rcases hs with hs | hs <;> simp [wireStep, h, hs]

/-- The phase that is entered, or the end of the transfer. -/
theorem enterPhase_cases (p : Phase) (s : State) :
    (p = .done ∧ enterPhase p s = deviceEnd (answerTo s s.shape) s.wireBytes { s with ph := .done, tcf := true })
      ∨ (p ≠ .done ∧ enterPhase p s = { s with ph := p }) := by
  by_cases h : p = .done <;> simp [enterPhase, h]

/-! ### The protection window and the CPU's accesses -/

/-- The end of the memory-mapped frame on the wire: nothing, or the frame's last bytes, its event, and an idle wire. -/
theorem finishMapped_eq (s : State) (hb : s.busy = .drawn) (hm : ccrMapped s.ccr = true) :
    finishMapped s = if s.ph = .idle then s else prefetchEnded s := by
  rcases s with ⟨_, _, _, _, _, busy, _⟩
  subst hb
  unfold finishMapped prefetchEnded endFrame refreshBusy currentFrame
  split <;> simp_all [emit]
  rfl

/-- `Wedged` leaves what is not the block's and not the device's as it was: the straps, the CPU's interrupt mask, the caller's buffer,
the trace, `op_done`, and the model's own queues. -/
theorem raiseWedged_frame (kind : CpuKind) (a : Word) (k : CpuSize) (s : State) :
    let t := raiseWedged kind a k s
    t.fault = some (.wedged kind a k) ∧ t.trace = s.trace ∧ t.irqEnabled = s.irqEnabled ∧ t.buf = s.buf ∧ t.par = s.par
      ∧ t.opDone = s.opDone ∧ t.sched = s.sched ∧ t.inputs = s.inputs ∧ t.unwound = s.unwound :=
  ⟨rfl, rfl, rfl, rfl, rfl, rfl, rfl, rfl, rfl⟩

/-- An access in one of its five ways (44_access_library.md R250, 60_exceptions.md R271). -/
theorem mappedAccess_cases (kind : CpuKind) (a : Word) (k : CpuSize) (s : State) :
    mappedAccess kind a k s = emit (.cpuAccess kind a k .outside) s
      ∨ mappedAccess kind a k s = emit (.cpuAccess kind a k .denied) s
      ∨ mappedAccess kind a k s = raise (.windowDenied kind a k) (emit (.cpuAccess kind a k .denied) s)
      ∨ mappedAccess kind a k s = raiseWedged kind a k (emit (.cpuAccess kind a k .wedged) s)
      ∨ mappedAccess kind a k s = raise (.unsupported .storeThroughWindow) (emit (.cpuAccess kind a k .mapped) s)
      ∨ mappedAccess kind a k s
        = raiseHang .mappedFrame (startFrame (beginMapped a (sizeBytes k) (emit (.cpuAccess kind a k .mapped) s)))
      ∨ mappedAccess kind a k s = serveMapped kind a k (emit (.cpuAccess kind a k .mapped) (finishMapped s)) := by
  unfold mappedAccess
  simp only
  repeat' split
  all_goals simp

/-! ### Operations -/

/-- With no schedule the other agents do nothing. -/
theorem interleave_quiet (s : State) (h : s.sched = []) : interleave s = s := by
  simp [interleave, h]

/-- A wait whose condition holds ends at once when no other agent steps. -/
theorem waitLoop_of_cond (cond : State → Bool) (w : Wait) (n : Nat) (s : State) (hq : s.sched = []) (hh : halted s = false)
    (hc : cond s = true) : waitLoop cond w n s = s := by
  cases n <;> simp [waitLoop, interleave_quiet s hq, hh, hc]

/-- A wait whose condition does not hold takes a step of the wire engine when no other agent steps. -/
theorem waitLoop_step (cond : State → Bool) (w : Wait) (n : Nat) (s : State) (hq : s.sched = []) (hh : halted s = false)
    (hc : cond s = false) : waitLoop cond w (n + 1) s = waitLoop cond w n (wireStep s) := by
  simp [waitLoop, interleave_quiet s hq, hh, hc]

/-- A wait on hardware that answers. -/
theorem waitFor_responsive (cond : State → Bool) (w : Wait) (s : State) (h : s.par.responsive = true) :
    waitFor cond w s = waitLoop cond w (frameFuel s) s := by
  simp [waitFor, h]

/-- A wait on hardware that does not. -/
theorem waitFor_dead (cond : State → Bool) (w : Wait) (s : State) (h : s.par.responsive = false) :
    waitFor cond w s = raiseHang w s := by
  simp [waitFor, h]

/-- The micro-steps one after the other when no other agent steps. -/
theorem runMicros_cons (m : Micro) (ms : List Micro) (s : State) (hq : s.sched = []) (hh : halted s = false) :
    runMicros (m :: ms) s = if halted (m s) then m s else runMicros ms (m s) := by
  simp [runMicros, interleave_quiet s hq, hh]

/-- No micro-steps are left. -/
@[simp] theorem runMicros_nil (s : State) : runMicros [] s = s := rfl

/-- An operation once no outcome is recorded. -/
theorem runOp_none (ms : List Micro) (s : State) (h : s.fault = none) :
    runOp ms s = .next (endOp (runMicros ms (beginOp s))) := by
  simp [runOp, h]

/-- A step of one agent once no outcome is recorded. -/
theorem runStep_none (m : Micro) (s : State) (h : s.fault = none) : runStep m s = .next (m s) := by
  simp [runStep, h]

/-- An operation that ended normally. -/
theorem endOp_of_not_halted (s : State) (h : halted s = false) : endOp s = { s with opDone := true } := by
  obtain ⟨hf, hu⟩ := (halted_eq_false s).1 h
  simp [endOp, hf, hu]

/-- An operation that raised an outcome leaves the state as the raising step found it. -/
theorem endOp_of_fault (s : State) (h : s.fault.isSome = true) : endOp s = { s with opDone := false, unwound := false } := by
  simp [endOp, h]

/-- An operation that was cut short: an abort that is pending completes. -/
theorem endOp_of_unwound (s : State) (hf : s.fault = none) (hu : s.unwound = true) :
    endOp s = { finishAbort s with opDone := false, unwound := false } := by
  simp [endOp, hf, hu]

/-- The checks of a primitive pass and change nothing (42_transaction_primitives.md R182). -/
theorem commonPre_pass (s : State) (hm : s.mode = .indirectAccess) (he : crEn s.cr = true) (hw : windowClosed s = true)
    (hb : s.busy = .zero) : commonPre s = s := by
  simp [commonPre, hm, he, hw, readBusy, hb]

/-- The checks of MMAP_CFG pass and change nothing (42_transaction_primitives.md R206). -/
theorem mmapPre_pass (s : State) (hm : s.mode = .indirectAccess) (he : crEn s.cr = true) (hw : windowClosed s = true)
    (hb : s.busy = .zero) : mmapPre s = s := by
  simp [mmapPre, hm, he, hw, readBusy, hb]

end Sys2Proof.Machine
end

