-- ==== Sys2Proof/Laws/Decode.lean ====
section
/-! SUPPORT. What the decoder reads is well formed; what the machine does with a presentation that is no row. -/

namespace Sys2Proof

/-- The address that is sent fits its width. -/
theorem sentAddress_wf (z : ASize) (w : Word) (n : Lines) : (AddrPhase.mk n z (sentAddress z w)).wf = true := by
  cases z with
  | a32 => rfl
  | a24 =>
    have h : (w &&& 0x00FFFFFF#32).toNat ≤ 0x00FFFFFF := by
      rw [BitVec.toNat_and]
      exact Nat.and_le_right
    exact decide_eq_true (Nat.lt_of_le_of_lt h (by decide))

/-- A write of any bytes moves none, or 1 to 2^32. -/
theorem writeData_wf (n : Lines) (bs : List Byte) : (writeData n bs).wf = true := by
  unfold writeData
  cases bs with
  | nil => rfl
  | cons b bs =>
    simp only [List.isEmpty_cons, Bool.false_eq_true, if_false]
    split
    next h =>
      have hl : bs.length + 1 ≤ 2 ^ 32 := h
      simp [FrameData.wf]
      omega
    next h =>
      have hl : ((b :: bs).take (2 ^ 32)).length = 2 ^ 32 := by
        rw [List.length_take]
        omega
      simp only [FrameData.wf, hl]
      decide

/-- The frame behind a device opcode is well formed. -/
theorem decodeFrameArgs_wf (bs : List Byte) : (decodeFrameArgs bs).wf = true := by
  simp only [decodeFrameArgs, FrameArgs.wf, decodeAddr, decodeData, Bool.and_eq_true]
  constructor
  · cases phaseLines ((byteAt bs 1).extractLsb' 1 2) with
    | none => rfl
    | some n => exact sentAddress_wf _ _ n
  · split
    · rfl
    · split
      · rfl
      · exact writeData_wf _ _

/-- A word of TMW.RDA1's pattern with RDID's opcode and size is RDID's word. -/
theorem rda1_word (w : Word) (h : w &&& 0xFFFFEF00 = 0x05002500) (ho : w.extractLsb' 0 8 = 0x9F) (hz : w.getLsbD 12 = false) :
    w = 0x0500259F := by
  apply BitVec.eq_of_getLsbD_eq
  intro i hi
  have h1 := congrArg (fun x => x.getLsbD i) h
  have h2 := congrArg (fun x => x.getLsbD i) ho
  simp only [BitVec.getLsbD_and, BitVec.getLsbD_extractLsb'] at h1 h2
  interval_cases i <;> simp_all

/-- What the decoder reads is well formed. -/
theorem decode_wellFormed (x : Input) (i : Instr) (h : decode x = .ok i) : WellFormed i = true := by
  obtain ⟨port, bs⟩ := x
  cases port
  case opc8 =>
    simp only [decode, decodeOpc8] at h
    split at h <;> cases h <;> exact decodeFrameArgs_wf bs
  case tmw =>
    simp only [decode, decodeTmw] at h
    repeat' split at h
    all_goals cases h
    all_goals first | rfl | skip
    next hn _ _ _ _ _ _ hw =>
      have hw' : wordAt bs 0 &&& 0xFFFFEF00 = 0x05002500 := by simpa using hw
      have hn' : wordAt bs 0 ≠ 0x0500259F := by simpa using hn
      simp only [WellFormed, tmwOpc, tmwSz, asizeOfBit]
      cases hz : (wordAt bs 0).getLsbD 12 with
      | true => simp
      | false =>
        by_cases ho : (wordAt bs 0).extractLsb' 0 8 = 0x9F#8
        · exact absurd (rda1_word _ hw' ho hz) hn'
        · simp [ho]
  case op =>
    simp only [decode, decodeOp] at h
    split at h <;> cases h <;> rfl
  case cpu =>
    simp only [decode, decodeCpu] at h
    split at h <;> cases h <;> rfl
  case rgn =>
    simp only [decode, decodeRgn] at h
    repeat' split at h
    all_goals cases h
    all_goals rfl
  case cfg =>
    simp only [decode, decodeCfg] at h
    repeat' split at h
    all_goals cases h
    all_goals rfl

end Sys2Proof

namespace Sys2Proof.Machine

/-- An unlisted mode word in a state whose checks pass: the word and its frame. -/
theorem writeUnlistedTmw_eq (w : Word) (s : State) (hf : s.fault = none) (hm : s.mode = .indirectAccess) (he : crEn s.cr = true)
    (hw : windowClosed s = true) (hb : s.busy = .zero) : writeUnlistedTmw w s = modeWordWritten w s := by
  have hp : (if ccrMapped w then mmapPre else commonPre) s = s := by
    split
    · simp [mmapPre, hm, he, hw, readBusy, hb]
    · simp [commonPre, hm, he, hw, readBusy, hb]
  unfold writeUnlistedTmw tmwRow
  simp only [hp, hf, Option.isSome_none, Bool.false_eq_true, if_false]
  exact writeTmw_eq_modeWordWritten w s (by simp [busyHeld, hb]) hf

/-- An attribute word: `Unsupported`, or one slot loaded with its fields and recorded. -/
theorem loadAttr_cases (w : Word) (s : State) :
    loadAttr w s = raise (.unsupported .reservedRegisterBit) s
      ∨ loadAttr w s = raise (.unsupported .descriptorWord) s
      ∨ loadAttr w s = emit (.rgnLoad s.par.slotOuter s.par.windowBase w) { s with rgnOuter := rgnOfAttr s.par w }
      ∨ loadAttr w s = emit (.rgnLoad s.par.slotMid s.par.windowBase w) { s with rgnMid := rgnOfAttr s.par w }
      ∨ loadAttr w s = emit (.rgnLoad s.par.slotInner s.par.windowBase w) { s with rgnInner := rgnOfAttr s.par w } := by
  unfold loadAttr
  simp only
  repeat' split
  all_goals simp [rgnOfAttr]

end Sys2Proof.Machine
end

