-- ==== Sys2Proof/Laws/Memory.lean ====
section
/-! SUPPORT. The byte memories: every operation keeps the canonical form; a read after a write; the other addresses. -/

namespace Sys2Proof.Machine

/-- The canonical form of a tail. -/
theorem Memory.wf_tail {c : Host.Cell} {m : Memory} (h : Memory.wf (c :: m) = true) : Memory.wf m = true := by
  simp only [Memory.wf, Bool.and_eq_true] at h
  exact h.2

/-- The canonical form of a list of two or more. -/
theorem Memory.wf_cons_cons (c d : Host.Cell) (m : Memory) :
    Memory.wf (c :: d :: m) = true ↔ c.1 < d.1 ∧ Memory.wf (d :: m) = true := by
  simp [Memory.wf]

/-- A write puts its own address or the first one in front. -/
theorem Memory.write_head (m : Memory) (a : Nat) (b : Byte) :
    ∃ c t, Memory.write m a b = c :: t ∧ (c.1 = a ∨ ∃ d u, m = d :: u ∧ c.1 = d.1) := by
  cases m with
  | nil => exact ⟨(a, b), [], rfl, .inl rfl⟩
  | cons d u =>
    simp only [Memory.write]
    split
    · exact ⟨_, _, rfl, .inl rfl⟩
    · split
      · exact ⟨_, _, rfl, .inl rfl⟩
      · exact ⟨_, _, rfl, .inr ⟨d, u, rfl, rfl⟩⟩

/-- A store of one byte keeps the canonical form. -/
theorem Memory.wf_write (m : Memory) (a : Nat) (b : Byte) (h : m.wf = true) : (m.write a b).wf = true := by
  induction m with
  | nil => rfl
  | cons c t ih =>
    simp only [Memory.write]
    split
    next hlt => exact (Memory.wf_cons_cons _ _ _).2 ⟨hlt, h⟩
    next hge =>
      split
      next heq =>
        cases t with
        | nil => rfl
        | cons d u =>
          rw [Memory.wf_cons_cons] at h ⊢
          exact ⟨by simpa [heq] using h.1, h.2⟩
      next hne =>
        have ht := ih (Memory.wf_tail h)
        obtain ⟨d, u, hw, hd⟩ := Memory.write_head t a b
        rw [hw] at ht ⊢
        refine (Memory.wf_cons_cons _ _ _).2 ⟨?_, ht⟩
        rcases hd with hd | ⟨e, v, rfl, hd⟩
        · omega
        · exact hd ▸ ((Memory.wf_cons_cons _ _ _).1 h).1

/-- A store of several bytes keeps the canonical form. -/
theorem Memory.wf_writeList (m : Memory) (a : Nat) (bs : List Byte) (h : m.wf = true) : (m.writeList a bs).wf = true := by
  induction bs generalizing m a with
  | nil => exact h
  | cons b t ih => exact ih _ _ (Memory.wf_write m a b h)

/-- After reset both memories are in the canonical form. -/
theorem Memory.wf_reset : State.reset.psram.wf = true ∧ State.reset.buf.wf = true := ⟨rfl, rfl⟩

/-- A read of the address just written gives the byte. -/
theorem Memory.read_write_same (m : Memory) (a : Nat) (b : Byte) : (m.write a b).read a = some b := by
  induction m with
  | nil => simp [Memory.write, Memory.read]
  | cons c t ih =>
    simp only [Memory.write]
    split
    · simp [Memory.read]
    · split
      · simp [Memory.read]
      next hne => simp [Memory.read, hne, ih]

/-- A read of another address gives what it gave. -/
theorem Memory.read_write_other (m : Memory) (a x : Nat) (b : Byte) (h : x ≠ a) : (m.write a b).read x = m.read x := by
  induction m with
  | nil => simp [Memory.write, Memory.read, h]
  | cons c t ih =>
    simp only [Memory.write]
    split
    · simp [Memory.read, h]
    · split
      next heq => simp [Memory.read, ← heq, h]
      · simp [Memory.read, ih]

/-- A read outside the bytes written gives what it gave. -/
theorem Memory.read_writeList_outside (m : Memory) (a x : Nat) (bs : List Byte) (h : x < a ∨ a + bs.length ≤ x) :
    (m.writeList a bs).read x = m.read x := by
  induction bs generalizing m a with
  | nil => rfl
  | cons b t ih =>
    simp only [List.length_cons] at h
    rw [Memory.writeList, ih _ _ (by omega), Memory.read_write_other _ _ _ _ (by omega)]

/-- A read inside the bytes written gives the byte of its place. -/
theorem Memory.read_writeList_inside (m : Memory) (a i : Nat) (bs : List Byte) (h : i < bs.length) :
    (m.writeList a bs).read (a + i) = some bs[i] := by
  induction bs generalizing m a i with
  | nil => simp at h
  | cons b t ih =>
    rw [Memory.writeList]
    cases i with
    | zero => rw [Memory.read_writeList_outside _ _ _ _ (by omega)]; simp [Memory.read_write_same]
    | succ j =>
      simp only [List.length_cons] at h
      simpa [Nat.add_assoc, Nat.add_comm 1] using ih (m.write a b) (a + 1) j (by omega)

/-- Storing one list and then the next is storing both. -/
theorem Memory.writeList_append (m : Memory) (a : Nat) (xs ys : List Byte) :
    m.writeList a (xs ++ ys) = (m.writeList a xs).writeList (a + xs.length) ys := by
  induction xs generalizing m a with
  | nil => rfl
  | cons x t ih => simp [Memory.writeList, ih, Nat.add_assoc, Nat.add_comm 1]

/-- A byte of the buffer outside a store. -/
theorem bufByte_bufWrite_outside (s : State) (p q : Nat) (bs : List Byte) (h : q < p ∨ p + bs.length ≤ q) :
    bufByte (bufWrite p bs s) q = bufByte s q := by
  simp [bufByte, bufWrite, Memory.read_writeList_outside _ _ _ _ h]

/-- A byte of the buffer inside a store. -/
theorem bufByte_bufWrite_inside (s : State) (p i : Nat) (bs : List Byte) (h : i < bs.length) :
    bufByte (bufWrite p bs s) (p + i) = bs[i] := by
  simp [bufByte, bufWrite, Memory.read_writeList_inside _ _ _ _ h]

end Sys2Proof.Machine
end

