-- ==== Sys2Proof/Laws/PerInstr.lean ====
section
/-! SUPPORT. A statement about every instruction as syntax, one lemma per constructor: what the encoder writes fills the port it is
written for. -/

namespace Sys2Proof.Laws

-- One theorem at a time, so that few threads hold a stack at once.
set_option Elab.async false

/-- The encoder writes at least the bytes of the port. -/
def PortFits.Statement (i : Instr) : Prop := portBytes (encode i).port ≤ (encode i).bytes.length

theorem PortFits.configure : PortFits.Statement .configure :=
  Nat.le_refl _
theorem PortFits.denyAll : PortFits.Statement .denyAll :=
  Nat.le_refl _
theorem PortFits.allowMapped : PortFits.Statement .allowMapped :=
  Nat.le_refl _
theorem PortFits.rdid : PortFits.Statement .rdid :=
  Nat.le_refl _
theorem PortFits.cmd (o : Byte) (n : Lines) : PortFits.Statement (.cmd o n) :=
  Nat.le_refl _
theorem PortFits.wr1 (o : Byte) (len p : Word) : PortFits.Statement (.wr1 o len p) :=
  Nat.le_refl _
theorem PortFits.wra (o : Byte) (n : Lines) (a len p : Word) : PortFits.Statement (.wra o n a len p) :=
  Nat.le_refl _
theorem PortFits.rd1 (o : Byte) (len : Word) : PortFits.Statement (.rd1 o len) :=
  Nat.le_refl _
theorem PortFits.rda (o : Byte) (n : Lines) (a len p : Word) : PortFits.Statement (.rda o n a len p) :=
  Nat.le_refl _
theorem PortFits.mmapCfg : PortFits.Statement .mmapCfg :=
  Nat.le_refl _
theorem PortFits.abort : PortFits.Statement .abort :=
  Nat.le_refl _
theorem PortFits.initialise : PortFits.Statement .initialise :=
  Nat.le_refl _
theorem PortFits.acquire : PortFits.Statement .acquire :=
  Nat.le_refl _
theorem PortFits.release : PortFits.Statement .release :=
  Nat.le_refl _
theorem PortFits.init : PortFits.Statement .init :=
  Nat.le_refl _
theorem PortFits.read (a len p : Word) : PortFits.Statement (.read a len p) :=
  Nat.le_refl _
theorem PortFits.write (a len p : Word) : PortFits.Statement (.write a len p) :=
  Nat.le_refl _
theorem PortFits.cpuLoad (a : Word) (k : CpuSize) : PortFits.Statement (.cpuLoad a k) :=
  Nat.le_refl _
theorem PortFits.cpuStore (a : Word) (k : CpuSize) (v : Word) : PortFits.Statement (.cpuStore a k v) :=
  Nat.le_refl _
theorem PortFits.cpuFetch (a : Word) (k : CpuSize) : PortFits.Statement (.cpuFetch a k) :=
  Nat.le_refl _
theorem PortFits.cpuSpec (a : Word) (k : CpuSize) : PortFits.Statement (.cpuSpec a k) :=
  Nat.le_refl _
theorem PortFits.tmwRdid : PortFits.Statement .tmwRdid :=
  Nat.le_refl _
theorem PortFits.tmwCmd (o : Byte) (il : Lines) : PortFits.Statement (.tmwCmd o il) :=
  Nat.le_refl _
theorem PortFits.tmwWr1 (o : Byte) : PortFits.Statement (.tmwWr1 o) :=
  Nat.le_refl _
theorem PortFits.tmwWra (o : Byte) (il al : Lines) (sz : ASize) (dl : Lines) : PortFits.Statement (.tmwWra o il al sz dl) :=
  Nat.le_refl _
theorem PortFits.tmwWra0 (o : Byte) (il al : Lines) (sz : ASize) : PortFits.Statement (.tmwWra0 o il al sz) :=
  Nat.le_refl _
theorem PortFits.tmwRd1 (o : Byte) : PortFits.Statement (.tmwRd1 o) :=
  Nat.le_refl _
theorem PortFits.tmwRda4 (o : Byte) (il : Lines) (sz : ASize) (abl : Option Lines) : PortFits.Statement (.tmwRda4 o il sz abl) :=
  Nat.le_refl _
theorem PortFits.tmwRda1 (o : Byte) (sz : ASize) : PortFits.Statement (.tmwRda1 o sz) :=
  Nat.le_refl _
theorem PortFits.tmwMmapCfg (il : Lines) (sz : ASize) (abl : Option Lines) : PortFits.Statement (.tmwMmapCfg il sz abl) :=
  Nat.le_refl _
theorem PortFits.opRead (f : FrameArgs) : PortFits.Statement (.opRead f) :=
  by cases f; rename_i d; cases d <;> simp [PortFits.Statement, encode, frameBytes, leBytes, portBytes]
theorem PortFits.opFastRead (f : FrameArgs) : PortFits.Statement (.opFastRead f) :=
  by cases f; rename_i d; cases d <;> simp [PortFits.Statement, encode, frameBytes, leBytes, portBytes]
theorem PortFits.opQuadRead (f : FrameArgs) : PortFits.Statement (.opQuadRead f) :=
  by cases f; rename_i d; cases d <;> simp [PortFits.Statement, encode, frameBytes, leBytes, portBytes]
theorem PortFits.opWrite (f : FrameArgs) : PortFits.Statement (.opWrite f) :=
  by cases f; rename_i d; cases d <;> simp [PortFits.Statement, encode, frameBytes, leBytes, portBytes]
theorem PortFits.opQuadWrite (f : FrameArgs) : PortFits.Statement (.opQuadWrite f) :=
  by cases f; rename_i d; cases d <;> simp [PortFits.Statement, encode, frameBytes, leBytes, portBytes]
theorem PortFits.opEnterQuad (f : FrameArgs) : PortFits.Statement (.opEnterQuad f) :=
  by cases f; rename_i d; cases d <;> simp [PortFits.Statement, encode, frameBytes, leBytes, portBytes]
theorem PortFits.opExitQuad (f : FrameArgs) : PortFits.Statement (.opExitQuad f) :=
  by cases f; rename_i d; cases d <;> simp [PortFits.Statement, encode, frameBytes, leBytes, portBytes]
theorem PortFits.opResetEnable (f : FrameArgs) : PortFits.Statement (.opResetEnable f) :=
  by cases f; rename_i d; cases d <;> simp [PortFits.Statement, encode, frameBytes, leBytes, portBytes]
theorem PortFits.opReset (f : FrameArgs) : PortFits.Statement (.opReset f) :=
  by cases f; rename_i d; cases d <;> simp [PortFits.Statement, encode, frameBytes, leBytes, portBytes]
theorem PortFits.opSetBurst (f : FrameArgs) : PortFits.Statement (.opSetBurst f) :=
  by cases f; rename_i d; cases d <;> simp [PortFits.Statement, encode, frameBytes, leBytes, portBytes]
theorem PortFits.opReadId (f : FrameArgs) : PortFits.Statement (.opReadId f) :=
  by cases f; rename_i d; cases d <;> simp [PortFits.Statement, encode, frameBytes, leBytes, portBytes]
theorem PortFits.rgnAttrOuter (srd : Byte) : PortFits.Statement (.rgnAttrOuter srd) :=
  Nat.le_refl _
theorem PortFits.rgnAttrMid (srd : Byte) : PortFits.Statement (.rgnAttrMid srd) :=
  Nat.le_refl _
theorem PortFits.rgnAttrInner (srd : Byte) : PortFits.Statement (.rgnAttrInner srd) :=
  Nat.le_refl _
theorem PortFits.crLoad (prescaler : Byte) (sshift : Bool) : PortFits.Statement (.crLoad prescaler sshift) :=
  Nat.le_refl _
theorem PortFits.dcrLoad (fsize : BitVec 5) (csht : BitVec 3) : PortFits.Statement (.dcrLoad fsize csht) :=
  Nat.le_refl _
theorem PortFits.reserved0E : PortFits.Statement .reserved0E :=
  Nat.le_refl _
theorem PortFits.reserved0F : PortFits.Statement .reserved0F :=
  Nat.le_refl _
theorem PortFits.reserved13 : PortFits.Statement .reserved13 :=
  Nat.le_refl _
theorem PortFits.reserved14 : PortFits.Statement .reserved14 :=
  Nat.le_refl _
theorem PortFits.reserved15 : PortFits.Statement .reserved15 :=
  Nat.le_refl _
theorem PortFits.reserved16 : PortFits.Statement .reserved16 :=
  Nat.le_refl _
theorem PortFits.reserved17 : PortFits.Statement .reserved17 :=
  Nat.le_refl _
theorem PortFits.reserved18 : PortFits.Statement .reserved18 :=
  Nat.le_refl _
theorem PortFits.reserved19 : PortFits.Statement .reserved19 :=
  Nat.le_refl _
theorem PortFits.reserved1A : PortFits.Statement .reserved1A :=
  Nat.le_refl _
theorem PortFits.reserved1B : PortFits.Statement .reserved1B :=
  Nat.le_refl _
theorem PortFits.reserved1C : PortFits.Statement .reserved1C :=
  Nat.le_refl _
theorem PortFits.reserved1D : PortFits.Statement .reserved1D :=
  Nat.le_refl _
theorem PortFits.reserved1E : PortFits.Statement .reserved1E :=
  Nat.le_refl _
theorem PortFits.reserved1F : PortFits.Statement .reserved1F :=
  Nat.le_refl _

end Sys2Proof.Laws
end

