-- ==== Sys2Proof/Tests/Slice0.lean ====
section
/-! SUPPORT. The model's own tests. Expected words and values are those of spec/30_encoding.md and spec/95_test_vectors.md (the
vector is named in the comment), or follow from a rule by hand. The second half gives, for every statement with premises, a state
and operands that meet them: one theorem `witness_<statement>`, every clause at a boundary where it has one. -/

namespace Sys2Proof.Tests

open Sys2Proof.Machine

-- One theorem at a time: each evaluation that waits for the kernel would hold a thread and its stack.
set_option Elab.async false

/-- The next state, if there is one. -/
def next? (o : Host.Outcome State Fault Refusal) : Option State :=
  match o with
  | .next t => some t
  | .fault _ | .refused _ => none

/-- The fault a step stops with. -/
def fault? (o : Host.Outcome State Fault Refusal) : Option Fault :=
  match o with
  | .fault f => some f
  | .next _ | .refused _ => none

/-- A condition of the next state; false where there is none. -/
def ends (o : Host.Outcome State Fault Refusal) (p : State → Bool) : Bool :=
  match o with
  | .next t => p t
  | .fault _ | .refused _ => false

/-- What the decoder reads. -/
def reads (port : Port) (bytes : List Byte) : Option Instr :=
  match decode ⟨port, bytes⟩ with
  | .ok i => some i
  | .error _ => none

/-! ### WellFormed refuses -/

/-- The word of RDID is not TMW.RDA1's (30_encoding.md R128). -/
theorem test_wf_rda1_is_not_rdid : WellFormed (.tmwRda1 0x9F .a24) = false := by decide
/-- A 24-bit address below 2^24 (10_state.md R27). -/
theorem test_wf_address_24 :
    WellFormed (.opQuadWrite ⟨.four, some ⟨.four, .a24, 0x01000000⟩, none, 0, .absent⟩) = false := by decide
/-- A write phase of no bytes is no phase. -/
theorem test_wf_write_empty : WellFormed (.opWrite ⟨.one, none, none, 0, .write .one []⟩) = false := by decide

/-! ### Decoding: a word of every constructor, written out from the spec -/

/-- Selectors of 30_encoding.md R126, R133; `op_opcode`, `op_lines`, `op_addr`, `op_len`, `op_ptr` behind them. -/
theorem test_decode_op :
    [[0x00], [0x01], [0x02], [0x03], [0x04, 0xF5, 1], [0x05, 0xC0, 0, 0, 0, 0, 0, 2, 0, 0, 0, 0x10],
      [0x06, 0x38, 1, 0xFF, 0xFF, 0xFF, 0x00, 1, 0, 0, 0, 0, 0, 0, 0x20], [0x07, 0x05, 0, 0, 0, 0, 0, 2],
      [0x08, 0x03, 0, 0x00, 0x00, 0x00, 0x01, 4, 0, 0, 0, 1], [0x09], [0x0A], [0x0B], [0x0C], [0x0D], [0x10],
      [0x11, 0, 0, 0x00, 0x01, 0, 0, 5, 0, 0, 0, 1, 0x20, 0, 0x20], [0x12, 0, 0, 0, 0, 0, 1, 1]].map (reads .op)
    = [some .configure, some .denyAll, some .allowMapped, some .rdid, some (.cmd 0xF5 .four), some (.wr1 0xC0 2 0x10),
      some (.wra 0x38 .four 0x00FFFFFF 1 0x20000000), some (.rd1 0x05 2), some (.rda 0x03 .one 0x01000000 4 1), some .mmapCfg,
      some .abort, some .initialise, some .acquire, some .release, some .init, some (.read 0x100 5 0x20002001),
      some (.write 0x01000000 1 0)] := by decide +kernel

/-- The reserved selectors (30_encoding.md R133); a sixth selector bit is on no line (R125). -/
theorem test_decode_reserved :
    [[0x0E], [0x0F], [0x13], [0x14], [0x15], [0x16], [0x17], [0x18], [0x19], [0x1A], [0x1B], [0x1C], [0x1D], [0x1E], [0x1F],
      [0x20]].map (reads .op)
    = [some .reserved0E, some .reserved0F, some .reserved13, some .reserved14, some .reserved15, some .reserved16,
      some .reserved17, some .reserved18, some .reserved19, some .reserved1A, some .reserved1B, some .reserved1C,
      some .reserved1D, some .reserved1E, some .reserved1F, some .configure] := by decide +kernel

/-- `cpu_kind` (30_encoding.md R126), of two bits. -/
theorem test_decode_cpu :
    [[0, 2, 0x00, 0x01, 0x00, 0x90], [1, 0, 0x00, 0x01, 0x00, 0x90, 0x55], [2, 1, 0xFE, 0xFF, 0x7F, 0x90], [3, 2, 0, 0, 0x80, 0x90],
      [7, 1]].map (reads .cpu)
    = [some (.cpuLoad 0x90000100 .b4), some (.cpuStore 0x90000100 .b1 0x55), some (.cpuFetch 0x907FFFFE .b2),
      some (.cpuSpec 0x90800000 .b4), some (.cpuSpec 0 .b2)] := by decide +kernel

/-- The mode words of 30_encoding.md R128 and of 95_test_vectors.md V4.1 to V4.19b, least significant byte first. -/
theorem test_decode_tmw :
    [[0x9F, 0x25, 0x00, 0x05], [0x35, 0x01, 0x00, 0x00], [0xF5, 0x03, 0x00, 0x00], [0xC0, 0x01, 0x00, 0x01],
      [0x38, 0x3F, 0x00, 0x03], [0x02, 0x25, 0x00, 0x01], [0x38, 0x2F, 0x00, 0x00], [0x05, 0x01, 0x00, 0x05],
      [0xEB, 0xEF, 0x18, 0x07], [0xEB, 0x3D, 0x18, 0x07], [0x03, 0x35, 0x00, 0x05], [0xEB, 0xFF, 0x18, 0x0F],
      [0xEB, 0x2D, 0x18, 0x0F]].map (reads .tmw)
    = [some .tmwRdid, some (.tmwCmd 0x35 .one), some (.tmwCmd 0xF5 .four), some (.tmwWr1 0xC0),
      some (.tmwWra 0x38 .four .four .a32 .four), some (.tmwWra 0x02 .one .one .a24 .one),
      some (.tmwWra0 0x38 .four .four .a24), some (.tmwRd1 0x05), some (.tmwRda4 0xEB .four .a24 (some .four)),
      some (.tmwRda4 0xEB .one .a32 none), some (.tmwRda1 0x03 .a32), some (.tmwMmapCfg .four .a32 (some .four)),
      some (.tmwMmapCfg .one .a24 none)] := by decide +kernel

/-- Reserved words (30_encoding.md R132): a reserved bit, line code 2, no Instr phase, a short address size, FM 2, ABS 1. -/
theorem test_decode_tmw_reserved :
    [0x00800135, 0x10000135, 0x00000235, 0x00000035, 0x00000535, 0x08000135, 0x00010135].map (fun w => reads .tmw (leBytes w))
    = [none, none, none, none, none, none, none] := by decide +kernel

/-- The eleven opcodes of 30_encoding.md R130, each with the frame its row of 42_transaction_primitives.md R212 asks for. -/
theorem test_decode_opc8 :
    [[0x03, 0x43, 0x20, 0, 0x00, 0x01, 0, 0, 1], [0x0B], [0xEB, 0xF7, 0x26, 0, 0x00, 0x01, 0, 0, 0xFF, 0xFF, 0xFF, 0xFF],
      [0x02, 0x42, 0, 0, 0x10, 0, 0, 0, 0, 0, 0, 0, 1, 2], [0x38, 0x0F, 0, 0, 0, 0, 0, 1], [0x35], [0xF5, 0x01], [0x66], [0x99],
      [0xC0, 0x40, 0, 0, 0, 0, 0, 0, 0, 0, 0, 0, 0x12, 0x34], [0x9F, 0x42, 0x20, 0, 0, 0, 0, 0, 7], [0x05]].map (reads .opc8)
    = [some (.opRead ⟨.four, some ⟨.one, .a24, 0x100⟩, none, 0, .read .one 1⟩), some (.opFastRead ⟨.one, none, none, 0, .absent⟩),
      some (.opQuadRead ⟨.four, some ⟨.four, .a24, 0x100⟩, some ⟨.four, 0⟩, 6, .read .four 0xFFFFFFFF⟩),
      some (.opWrite ⟨.one, some ⟨.one, .a24, 0x10⟩, none, 0, .write .one [1, 2]⟩),
      some (.opQuadWrite ⟨.four, some ⟨.four, .a32, 0x01000000⟩, none, 0, .absent⟩),
      some (.opEnterQuad ⟨.one, none, none, 0, .absent⟩), some (.opExitQuad ⟨.four, none, none, 0, .absent⟩),
      some (.opResetEnable ⟨.one, none, none, 0, .absent⟩), some (.opReset ⟨.one, none, none, 0, .absent⟩),
      some (.opSetBurst ⟨.one, none, none, 0, .write .one [0x12, 0x34]⟩),
      some (.opReadId ⟨.one, some ⟨.one, .a24, 0⟩, none, 0, .read .one 7⟩), none] := by decide +kernel

/-- The attribute words of 41_protection_window.md R167 for 8 MiB; another size class is none. -/
theorem test_decode_rgn :
    [[0x37, 0x01, 0x00, 0x10], [0x31, 0x03, 0x00, 0x10], [0x2F, 0x0F, 0x00, 0x10], [0x2D, 0x0F, 0x00, 0x10]].map (reads .rgn)
    = [some (.rgnAttrOuter 0x01), some (.rgnAttrMid 0x03), some (.rgnAttrInner 0x0F), none] := by decide +kernel

/-- Of a 24-bit address only 24 bits are sent (30_encoding.md R117); a write of no bytes has no Data phase; a phase whose low bit is 0 is
absent. -/
theorem test_decode_frame :
    [[0x02, 0x42, 0, 0, 0x10, 0, 0, 0x01, 0, 0, 0, 0, 7], [0x02, 0x42, 0, 0, 0x10, 0, 0, 0], [0x02, 0x84]].map (reads .opc8)
    = [some (.opWrite ⟨.one, some ⟨.one, .a24, 0x10⟩, none, 0, .write .one [7]⟩),
      some (.opWrite ⟨.one, some ⟨.one, .a24, 0x10⟩, none, 0, .absent⟩),
      some (.opWrite ⟨.one, none, none, 0, .absent⟩)] := by decide +kernel

/-- The words of 95_test_vectors.md V2.1 and V2.3; TCEN written 1 is none. -/
theorem test_decode_cfg :
    [[0x11, 0x03, 0x00, 0x02], [0x02, 0x03, 0x16, 0x00], [0x11, 0x03, 0x00, 0xFF], [0x02, 0x07, 0x1B, 0x00],
      [0x19, 0x03, 0x00, 0x02]].map (reads .cfg)
    = [some (.crLoad 2 true), some (.dcrLoad 22 3), some (.crLoad 255 true), some (.dcrLoad 27 7), none] := by decide +kernel

/-- Rows of spec/opcode_table.json by their bits alone. -/
theorem test_decode_table_word :
    [decodeTableWord 5 0x0C, decodeTableWord 2 3, decodeTableWord 32 0x0500259F, decodeTableWord 8 0x35,
      decodeTableWord 32 0x10000337, decodeTableWord 32 0x02000311, decodeTableWord 32 0x00160302, decodeTableWord 32 0x00000102]
    = [some .acquire, some (.cpuSpec 0 .b1), some .tmwRdid, some (.opEnterQuad ⟨.one, none, none, 0, .absent⟩),
      some (.rgnAttrOuter 3), some (.crLoad 2 true), some (.dcrLoad 22 3), some (.tmwCmd 0x02 .one)] := by decide +kernel

/-! ### States the tests start from -/

/-- After INITIALIZE with the parameters of 95_test_vectors.md. -/
def configuredState : State :=
  { closed State.reset with
    mode := .indirectAccess, cr := 0x02000311, dcr := 0x00160302, pinsEnabled := true, trace := [] }

/-- The same, the device in QPI mode, four bytes of the array known. -/
def quadState : State := { configuredState with devMode := .qpi, psram := [(0x100, 0xDE), (0x101, 0xAD), (0x102, 0xBE), (0x103, 0xEF)] }

/-- The same in MemoryMapped, the window open. -/
def mappedState : State := { opened quadState with mode := .memoryMapped, ccr := 0x0F18EFEB, trace := [] }

/-- The same on hardware that does not answer. -/
def deadState : State := { configuredState with par := { Params.atReset with responsive := false } }

/-- Program P4 of 95_test_vectors.md: a WRITE cut short after three of its eight bytes. -/
def interruptedState : State :=
  { quadState with
    ccr := 0x03002F38, dlr := 7, ar := 0x200, busy := .one, ph := .data, nCS := false, fifo := [4, 5, 6, 7, 8], wireBytes := [1, 2, 3]
    psram := [(0x200, 1), (0x201, 2), (0x202, 3)] }

/-! ### Vectors -/

/-- V2.1, V2.3: the words CONFIGURE loads. -/
theorem test_configure_words :
    ends (exec .configure State.reset) (fun t => t.cr == 0x02000311 && t.dcr == 0x00160302 && t.pinsEnabled)
      && ends (exec .configure { State.reset with par := { Params.atReset with prescaler := 256, csHighCycles := 8, capLog2Bits := 31 } })
        (fun t => t.cr == 0xFF000311 && t.dcr == 0x001B0702) := by decide +kernel

/-- V2.10: CONFIGURE cuts off a frame; the event stands before `CfgLoad`. -/
theorem test_configure_cuts_off :
    ends (exec .configure interruptedState) (fun t => t.nCS && t.fifo == [] && t.psram == interruptedState.psram && t.trace ==
      [.periphReset,
        .frame ⟨false, .four, 0x38, some ⟨.four, .a24, 0x200⟩, none, 0, some ⟨.four, .write, [1, 2, 3]⟩, true⟩,
        .cfgLoad 0x02000311 0x00160302]) := by decide +kernel

/-- V3.1, V3.4: DENY_ALL with interrupts disabled. -/
theorem test_deny_all :
    ends (exec .denyAll { State.reset with irqEnabled := false }) (fun t => !t.irqEnabled && t.trace ==
      [.irqMask, .rgnLoad 0 0x90000000 0x10000037, .rgnLoad 1 0x90000000 0x10000031, .rgnLoad 2 0x90000000 0x1000002F,
        .irqRestore false]) := by decide +kernel

/-- V3.2 for 8 MiB, V3.3: ALLOW_MAPPED. -/
theorem test_allow_mapped :
    ends (exec .allowMapped State.reset) (fun t => t.trace ==
      [.irqMask, .rgnLoad 0 0x90000000 0x10000137, .rgnLoad 1 0x90000000 0x10000331, .rgnLoad 2 0x90000000 0x10000F2F,
        .irqRestore true]
      && [0x00000000, 0x007FFFFF, 0x00800000, 0x00FFFFFF, 0x01000000, 0x02000000, 0x0FFFFFFF].map
        (fun x => allowed t (0x90000000 + x)) == [true, true, false, false, false, false, false]) := by decide +kernel

/-- V4.31 and section 4's identification: RDID. -/
theorem test_rdid :
    ends (exec .rdid configuredState) (fun t => t.dlr == 7 && t.ar == 0 && t.tcf && t.diagValid
      && t.diagBytes == 0x31913164A2525D0D && t.trace ==
        [.tmwWrite 0x0500259F,
          .frame ⟨false, .one, 0x9F, some ⟨.one, .a24, 0⟩, none, 0,
            some ⟨.one, .read, [0x0D, 0x5D, 0x52, 0xA2, 0x64, 0x31, 0x91, 0x31]⟩, false⟩,
          .diag [0x0D, 0x5D, 0x52, 0xA2, 0x64, 0x31, 0x91, 0x31]]) := by decide +kernel

/-- V4.4, V4.50, V4.52: CMD. -/
theorem test_cmd :
    ends (exec (.cmd 0x35 .one) configuredState) (fun t => t.ccr == 0x00000135 && t.devMode == .qpi && t.busy == .zero)
      && ends (exec (.cmd 0xF5 .one) quadState) (fun t => t.devMode == .unknown && t.psram == []) := by decide +kernel

/-- V4.8, V4.56: WR1; the first byte of the buffer is the first on the wire. -/
theorem test_wr1 :
    ends (exec (.wr1 0xC0 2 7) { configuredState with buf := [(7, 0x12), (8, 0x34)] }) (fun t =>
      t.ccr == 0x010001C0 && t.dlr == 1 && t.devBurst == 0x3412 && t.trace ==
        [.tmwWrite 0x010001C0, .frame ⟨false, .one, 0xC0, none, none, 0, some ⟨.one, .write, [0x12, 0x34]⟩, false⟩]) := by
  decide +kernel

/-- V4.32: WRA; V4.14: the address-only form leaves `DLR` alone. -/
theorem test_wra :
    ends (exec (.wra 0x38 .four 0x100 4 0) { quadState with buf := [(0, 0xDE), (1, 0xAD), (2, 0xBE), (3, 0xEF)], psram := [] })
        (fun t => t.ccr == 0x03002F38 && t.ar == 0x100 && t.psram == [(0x100, 0xDE), (0x101, 0xAD), (0x102, 0xBE), (0x103, 0xEF)])
      && ends (exec (.wra 0x38 .four 0x100 0 0) { quadState with dlr := 9 }) (fun t =>
        t.ccr == 0x00002F38 && t.dlr == 9 && t.psram == quadState.psram && t.tcf) := by decide +kernel

/-- V4.9, V4.48: RD1. -/
theorem test_rd1 :
    ends (exec (.rd1 0x05 2) configuredState) (fun t => t.ccr == 0x05000105 && t.dlr == 1 && t.devMode == .unknown
      && t.draws == 2) := by decide +kernel

/-- V4.21, V4.25: RDA through the word path and the byte path. -/
theorem test_rda :
    ends (exec (.rda 0xEB .four 0x100 4 8) quadState) (fun t => t.ccr == 0x0718EFEB && t.buf == [(8, 0xDE), (9, 0xAD), (10, 0xBE), (11, 0xEF)])
      && ends (exec (.rda 0xEB .four 0x100 4 9) quadState) (fun t => t.buf == [(9, 0xDE), (10, 0xAD), (11, 0xBE), (12, 0xEF)]) := by
  decide +kernel

/-- V4.18: MMAP_CFG below and above 16 MiB. -/
theorem test_mmap_cfg :
    ends (exec .mmapCfg configuredState) (fun t => t.ccr == 0x0F18EFEB && t.busy == .zero && t.ph == .idle)
      && ends (exec .mmapCfg { configuredState with par := { Params.atReset with capLog2Bits := 28 } })
        (fun t => t.ccr == 0x0F18FFEB) := by decide +kernel

/-- V5.9, program P4: ACQUIRE aborts what is left over. -/
theorem test_acquire_recovers :
    ends (exec .acquire interruptedState) (fun t => t.busy == .zero && t.fifo == [] && t.nCS && t.psram == interruptedState.psram
      && t.trace.drop 5 == [.abortReq,
        .frame ⟨false, .four, 0x38, some ⟨.four, .a24, 0x200⟩, none, 0, some ⟨.four, .write, [1, 2, 3]⟩, true⟩,
        .modeChange .indirectAccess]) := by decide +kernel

/-- V5.5, V5.8: RELEASE. -/
theorem test_release :
    ends (exec .release configuredState) (fun t => t.mode == .memoryMapped && t.ccr == 0x0F18EFEB && windowOpen t)
      && ends (exec .release mappedState) (fun t => t.fault == some (.misuse .releaseOutsideBracket)) := by decide +kernel

/-- V5.10, V5.13: ABORT on an idle controller; on hardware that does not answer. -/
theorem test_abort :
    ends (exec .abort configuredState) (fun t => t.trace == [.abortReq] && t.cr == 0x02000311)
      && ends (exec .abort { deadState with ph := .instr, busy := .one, nCS := false }) (fun t => t.nCS && t.busy == .zero) := by
  decide +kernel

/-- Program P1 of 95_test_vectors.md: INIT after power-on. -/
theorem test_init :
    ends (exec .init State.reset) (fun t => t.mode == .indirectAccess && t.ccr == 0x00000135 && t.dlr == 7 && t.ar == 0 && t.tcf
      && t.devMode == .qpi && t.fault == none && t.trace ==
        [.periphReset, .cfgLoad 0x02000311 0x00160302, .irqMask, .rgnLoad 0 0x90000000 0x10000037,
          .rgnLoad 1 0x90000000 0x10000031, .rgnLoad 2 0x90000000 0x1000002F, .irqRestore true, .modeChange .indirectAccess,
          .tmwWrite 0x0500259F,
          .frame ⟨false, .one, 0x9F, some ⟨.one, .a24, 0⟩, none, 0,
            some ⟨.one, .read, [0x0D, 0x5D, 0x52, 0xA2, 0x64, 0x31, 0x91, 0x31]⟩, false⟩,
          .diag [0x0D, 0x5D, 0x52, 0xA2, 0x64, 0x31, 0x91, 0x31],
          .tmwWrite 0x00000135, .frame ⟨false, .one, 0x35, none, none, 0, none, false⟩]) := by decide +kernel

/-- The last line of P5: INIT on hardware that does not answer. -/
theorem test_init_hangs :
    ends (exec .init { State.reset with par := { Params.atReset with responsive := false } }) (fun t =>
      t.fault == some (.hang .fifoByteReady) && t.busy == .one && !t.nCS && !t.opDone
      && t.trace.getLast? == some (.tmwWrite 0x0500259F)) := by decide +kernel

/-- Program P2: READ to a buffer off a word boundary. -/
theorem test_read :
    ends (exec (.read 0x100 4 0x2001) mappedState) (fun t => t.mode == .memoryMapped && t.ccr == 0x0F18EFEB && windowOpen t
      && t.buf == [(0x2001, 0xDE), (0x2002, 0xAD), (0x2003, 0xBE), (0x2004, 0xEF)] && t.psram == mappedState.psram) := by
  decide +kernel

/-- Program P3: WRITE at 0x01000000 with 32 MiB uses 32 address bits. -/
theorem test_write :
    ends (exec (.write 0x01000000 1 0) { quadState with par := { Params.atReset with capLog2Bits := 28 }, buf := [(0, 0xAA)], psram := [] })
      (fun t => t.psram == [(0x01000000, 0xAA)] && t.ccr == 0x0F18FFEB && t.trace.contains (.tmwWrite 0x03003F38)) := by
  decide +kernel

/-- V6.3 to V6.6: the range is taken on naturals. -/
theorem test_range :
    [((0x007FFFFF : Word), (1 : Word)), (0x007FFFFF, 2), (0x00800000, 1), (0xFFFFFFFF, 2)].map
      (fun x => ends (exec (.read x.1 x.2 0) quadState) (fun t => t.fault == none)) = [true, false, false, false] := by decide +kernel

/-- V6.20, V6.21, V6.26: permitted accesses. -/
theorem test_cpu_mapped :
    ends (exec (.cpuLoad 0x90000100 .b4) mappedState) (fun t => t.cpuRdata == 0xEFBEADDE && t.busy == .drawn)
      && ends (exec (.cpuFetch 0x90000101 .b1) mappedState) (fun t => t.cpuRdata == 0xAD)
      && ends (exec (.cpuSpec 0x90000100 .b4) mappedState) (fun t => t.cpuRdata == 0) := by decide +kernel

/-- V6.23, V6.25, V6.27, V6.31: denied, dropped, a store, outside. -/
theorem test_cpu_denied :
    [next? (exec (.cpuLoad 0x907FFFFE .b4) mappedState), next? (exec (.cpuSpec 0x90800000 .b4) mappedState),
      next? (exec (.cpuStore 0x90000100 .b4 0x11223344) mappedState), next? (exec (.cpuLoad 0x20000000 .b4) mappedState)].map
      (fun t => t.map State.fault)
    = [some (some (.windowDenied .load 0x907FFFFE .b4)), some none, some (some (.unsupported .storeThroughWindow)), some none] := by
  decide +kernel

/-- A presentation that is no row. 93_implementation_defined.md U15: an opcode outside the table is sent and spoils the device.
30_encoding.md R118, 42_transaction_primitives.md R181: WR1's word on four instruction lines starts a frame of four instruction lines. -/
theorem test_unlisted_frame :
    ends (step { quadState with inputs := [⟨.opc8, [0x05, 1]⟩] }) (fun t => t.devMode == .unknown && t.psram == []
        && t.trace == [.frame ⟨false, .four, 0x05, none, none, 0, none, false⟩])
      && ends (step { quadState with inputs := [tmwInput 0x01000301] }) (fun t => t.ccr == 0x01000301 && t.ph == .instr
        && t.shape.ilines == .four && t.trace == [.tmwWrite 0x01000301] && t.inputs == []) := by decide +kernel

/-- 44_access_library.md R251, 30_encoding.md R118: a memory-mapped word with opcode 0xF5 and no phase but Instr; the access sends it and
the device leaves QPI mode. -/
theorem test_unlisted_mapped :
    ends (step { quadState with inputs := [tmwInput 0x0C0003F5] }) (fun t => t.ccr == 0x0C0003F5 && t.ph == .idle)
      && ends (exec (.cpuLoad 0x90000100 .b4) { mappedState with ccr := 0x0C0003F5 }) (fun t => t.devMode == .spi && t.ph == .idle
        && t.trace == [.cpuAccess .load 0x90000100 .b4 .mapped, .frame ⟨true, .four, 0xF5, none, none, 0, none, false⟩]) := by
  decide +kernel

/-- 20_memory.md R85: the outer region disabled, the window is no longer closed; 30_encoding.md R121: a reserved bit, a permission, a size
class of no slot. -/
theorem test_unlisted_attr :
    ends (step { configuredState with inputs := [⟨.rgn, [0x36, 0, 0, 0x10]⟩] }) (fun t => t.rgnOuter == ⟨false, 0x90000000, 27, 0⟩
        && !windowClosed t && t.trace == [.rgnLoad 0 0x90000000 0x10000036])
      && [[0x77, 0, 0, 0x10], [0x37, 0, 0, 0x11], [0x2D, 0, 0, 0x10]].map
        (fun bs => (next? (step { configuredState with inputs := [⟨.rgn, bs⟩] })).map State.fault)
        == [some (some (.unsupported .reservedRegisterBit)), some (some (.unsupported .descriptorWord)),
          some (some (.unsupported .descriptorWord))] := by decide +kernel

/-- 10_state.md R45: `ABORT` written 1 in a `CR` word ends the frame on the wire and reads 0 after it. R30, R31: `EN` 0 and `CSAR` 0 are
held. 93_implementation_defined.md U14, U11: `TCEN` 1, and a bit reserved in both registers. -/
theorem test_unlisted_config :
    ends (step { interruptedState with inputs := [⟨.cfg, [0x13, 3, 0, 2]⟩] }) (fun t => t.cr == 0x02000311 && t.ph == .idle && t.nCS
        && t.fifo == [] && t.busy == .zero && t.trace.length == 1)
      && ends (step { configuredState with inputs := [⟨.cfg, [0x10, 3, 0, 2]⟩] }) (fun t => t.cr == 0x02000310)
      && ends (step { configuredState with inputs := [⟨.cfg, [0, 3, 0x16, 0]⟩] }) (fun t => t.dcr == 0x00160300 && t.cr == configuredState.cr)
      && [[0x19, 3, 0, 2], [0x05, 0, 0, 0]].map
        (fun bs => (next? (step { configuredState with inputs := [⟨.cfg, bs⟩] })).map State.fault)
        == [some (some (.unsupported .parameters)), some (some (.unsupported .reservedRegisterBit))] := by decide +kernel

/-- V6.32: an open window without memory-mapped mode. -/
theorem test_cpu_wedged :
    ends (exec (.cpuSpec 0x90000100 .b4) { mappedState with ccr := 0 }) (fun t => t.fault == some (.wedged .spec 0x90000100 .b4)
      && t.trace == [.cpuAccess .spec 0x90000100 .b4 .wedged] && fault? (step t) == t.fault) := by decide +kernel

/-- A memory-mapped frame of 44_access_library.md R251 is on the wire: two of its eight bytes are still to come. -/
def prefetchState : State :=
  { mappedState with
    busy := .drawn, ph := .data, nCS := false, mapAddr := 0x100, mapLen := 8, wireBytes := [0xDE, 0xAD, 0xBE, 0xEF, 1, 2] }

/-- The example of 43_bus_mode_arbitration.md R224: ACQUIRE aborts a memory-mapped frame; left alone, it ends by itself, and
`SR.TCF` stays 0. -/
theorem test_prefetch :
    ends (exec .acquire prefetchState) (fun t => t.ph == .idle && t.nCS && t.trace.drop 5 == [.abortReq,
        .frame ⟨true, .four, 0xEB, some ⟨.four, .a24, 0x100⟩, some ⟨.four, 0⟩, 6,
          some ⟨.four, .read, [0xDE, 0xAD, 0xBE, 0xEF, 1, 2]⟩, true⟩, .modeChange .indirectAccess])
      && ends (.next (wireStep (wireStep prefetchState))) (fun t => t.ph == .idle && t.nCS && !t.tcf && t.fifo == []) := by
  decide +kernel

/-- 60_exceptions.md R260: a device opcode on hardware that does not answer leaves a frame on the wire. -/
theorem test_device_hang :
    ends (exec (.opEnterQuad ⟨.one, none, none, 0, .absent⟩) deadState) (fun t => t.fault == some (.hang .deviceFrame)
      && t.busy == .one && !t.nCS && t.ph == .instr) := by decide +kernel

/-- 10_state.md R32, R44: FTF in indirect-write mode after CMD, and the word of SR over a FIFO of five bytes. -/
theorem test_sr :
    (srFtf { configuredState with ccr := 0x00000135 }, srFtf configuredState, (readSr interruptedState).1)
      = (true, false, 0x00000524) := by decide +kernel

/-- V4.33, V4.36: the lines, clock by clock. -/
theorem test_wire :
    Frame.wire ⟨false, .four, 0xF5, none, none, 0, none, false⟩ = [.out4 0xF, .out4 0x5]
      ∧ Frame.wire ⟨false, .four, 0xEB, some ⟨.four, .a24, 0x100⟩, some ⟨.four, 0⟩, 6, some ⟨.four, .read, [0xDE]⟩, false⟩
        = [.out4 0xE, .out4 0xB, .out4 0, .out4 0, .out4 0, .out4 1, .out4 0, .out4 0, .out4 0, .out4 0, .undriven, .undriven,
          .undriven, .undriven, .undriven, .undriven, .in4 0xD, .in4 0xE] := by decide +kernel

/-- A row of the table as the first instruction after reset: it is run. -/
theorem test_first_instruction :
    ends (step (State.reset.withFetchWord 5 0x0B)) (fun t => t.mode == .indirectAccess && t.inputs == []) := by decide +kernel

/-! ### Witnesses -/

/-- `DecodeEncodeRoundTrip`, `PortFits`: a well-formed instruction with operands. -/
theorem witness_DecodeEncodeRoundTrip : WellFormed (.opQuadWrite ⟨.four, some ⟨.four, .a24, 0x00FFFFFF⟩, none, 0, .write .four [1]⟩) = true := by
  decide

/-- `StepRunsDecodedInstruction`: something presented; nothing presented. -/
theorem witness_StepRunsDecodedInstruction :
    (let s := { State.reset with inputs := [opPlain 0x01, opPlain 0x02] };
      s.fault = none ∧ s.inputs = opPlain 0x01 :: [opPlain 0x02] ∧ reads (opPlain 0x01).port (opPlain 0x01).bytes = some .denyAll)
    ∧ State.reset.fault = none ∧ State.reset.inputs = [] ∧ State.reset.ph = .idle ∧ crAbort State.reset.cr = false := by
  decide +kernel

/-- `RecordedOutcomeIsNeverCleared`. -/
theorem witness_RecordedOutcomeIsNeverCleared :
    { State.reset with fault := some (.misuse .reentrant) }.fault = some (.misuse .reentrant) := by decide +kernel

/-- `ReservedEncodingsAreUnsupported`: the first selector and the last, and a reserved mode word. -/
theorem witness_ReservedEncodingsAreUnsupported :
    Quiet State.reset
      ∧ (let s := { State.reset with inputs := [tmwInput 0x00800135] };
        s.fault = none ∧ s.inputs = tmwInput 0x00800135 :: [] ∧ reservedTmw 0x00800135 = true) := by decide +kernel

/-- `StepKeepsInvariant`, `StepKeepsIrqEnabled`, `TraceIsAppendOnly`, `StateIsWrittenOnlyByItsOperations`: a state with a frame on
the wire, and one with a memory-mapped frame, meet the invariant and have a next state; none of the four operation classes holds of
ABORT, which does not end in `Wedged`. -/
theorem witness_StepKeepsInvariant :
    Inv interruptedState ∧ Inv prefetchState ∧ isWedged interruptedState = false
      ∧ ends (exec .abort interruptedState) (fun t => !isWedged t) ∧ ends (step interruptedState) (fun t => t.ph == .data)
      ∧ ends (step (interruptedState.withFetchWord 5 0x0A)) (fun t => t.ph == .idle)
      ∧ ends (exec .abort interruptedState) (fun t => t.ph == .idle)
      ∧ writesMode .abort = false ∧ writesWindow .abort = false ∧ writesConfig .abort = false ∧ writesBuffer .abort = false := by
  refine ⟨by decide +kernel, by decide +kernel, by decide +kernel⟩

/-- `WindowClosedIffAllDenied`, `WindowOpenIffExactlyValidAllowed`: both sides occur, and so does neither. -/
theorem witness_WindowClosedIffAllDenied :
    windowClosed configuredState = true ∧ windowOpen mappedState = true ∧ windowClosed State.reset = false
      ∧ windowOpen State.reset = false ∧ inSpan State.reset.par 0x90000000 = true := by decide +kernel

/-- `DenyAllClosesWindow`, `AllowMappedOpensWindow`. -/
theorem witness_DenyAllClosesWindow : Quiet State.reset ∧ ParamsOk State.reset.par := by decide +kernel

/-- `AllowMappedPermitsExactlyTheCapacity`: the smallest and the largest capacity, the ends of the span. -/
theorem witness_AllowMappedPermitsExactlyTheCapacity :
    ParamsOk { Params.atReset with capLog2Bits := 24 } ∧ ParamsOk { Params.atReset with capLog2Bits := 31 }
      ∧ 0 < Config.spanBytes ∧ 0x0FFFFFFF < Config.spanBytes := by decide +kernel

/-- `MasksAndAttributesOfEveryCapacity`: every row has its parameters. -/
theorem witness_MasksAndAttributesOfEveryCapacity :
    ∀ n ∈ [24, 25, 26, 27, 28, 29, 30, 31], { Params.atReset with capLog2Bits := n }.capLog2Bits = n := by decide +kernel

/-- `ClosedWindowShutsSpeculationOut`: a closed window; a primitive with turns at its first two places. -/
theorem witness_ClosedWindowShutsSpeculationOut :
    windowClosed configuredState = true ∧ isPrimitive .rdid = true
      ∧ (let s := { configuredState with sched := [[.cpu ⟨.spec, 0x90000000, .b4⟩], [.wire, .cpu ⟨.spec, 0x9FFFFFFF, .b1⟩]] };
        Ready { s with sched := [] } ∧ HarmlessSched s) := by decide +kernel

/-- `RegisterRowsLoadOneRegister`, and the third clause of `StepRunsDecodedInstruction`. -/
theorem witness_RegisterRowsLoadOneRegister : State.reset.fault = none := by decide +kernel

/-- `ConfigureResetsAndLoads`, `ConfigureTwiceIsOnce`, `InitialiseConfiguresAndCloses`, at the ends of every range. -/
theorem witness_ConfigureResetsAndLoads :
    Quiet State.reset
      ∧ paramsLegal { Params.atReset with prescaler := 1, csHighCycles := 1, capLog2Bits := 24, sampleShift := false } = true
      ∧ paramsLegal { Params.atReset with prescaler := 256, csHighCycles := 8, capLog2Bits := 31 } = true := by decide +kernel

/-- `ConfigureRefusesIllegalParameters`: one value beyond each end. -/
theorem witness_ConfigureRefusesIllegalParameters :
    ∀ p ∈ [{ Params.atReset with prescaler := 0 }, { Params.atReset with prescaler := 257 }, { Params.atReset with timeoutEn := true },
        { Params.atReset with csHighCycles := 0 }, { Params.atReset with csHighCycles := 9 }, { Params.atReset with capLog2Bits := 23 },
        { Params.atReset with capLog2Bits := 32 }],
      let s := { State.reset with par := p };
      Quiet s
        ∧ (s.par.prescaler < 1 ∨ 256 < s.par.prescaler ∨ s.par.timeoutEn = true ∨ s.par.csHighCycles < 1 ∨ 8 < s.par.csHighCycles
          ∨ s.par.capLog2Bits < 24 ∨ 31 < s.par.capLog2Bits) := by decide +kernel

/-- `PrimitivesCheckTheirPreconditions`: a primitive, and a state for each clause of either half. -/
theorem witness_PrimitivesCheckTheirPreconditions :
    isPrimitive .rdid = true
      ∧ (Quiet State.reset ∧ State.reset.mode ≠ .indirectAccess ∧ crEn State.reset.cr = false)
      ∧ (let s := { configuredState with cr := 0 };
        Quiet s ∧ s.mode = .indirectAccess ∧ crEn s.cr = false)
      ∧ (let s := { mappedState with mode := .indirectAccess };
        Quiet s ∧ s.mode = .indirectAccess ∧ crEn s.cr = true ∧ s.busy = .zero ∧ windowClosed s = false)
      ∧ (Quiet interruptedState ∧ interruptedState.mode = .indirectAccess
        ∧ crEn interruptedState.cr = true ∧ windowClosed interruptedState = true ∧ interruptedState.busy = .one)
      ∧ (Quiet mappedState ∧ crEn mappedState.cr = true ∧ mappedState.busy = .zero ∧ mappedState.mode ≠ .indirectAccess) := by
  decide +kernel

/-- `StatusAndDescriptorAreViews`: a state for each clause of the status register, and a length. -/
theorem witness_StatusAndDescriptorAreViews :
    interruptedState.fifo.length < 64 ∧ interruptedState.ccr ≠ 0 ∧ ccrFm interruptedState.ccr = 0b00
      ∧ (0x0718EFEB : Word) ≠ 0 ∧ ccrFm 0x0718EFEB = 0b01 ∧ configuredState.ccr = 0 ∧ ccrFm mappedState.ccr = 0b11
      ∧ ccrFm 0x08000000 = 0b10 ∧ (1 : Word) ≠ 0 := by decide +kernel

/-- `OperandChecksPrecedeEveryWrite`, the other statements about a primitive that ends (`RdidReadsAndReports`, `CmdSendsTheInstruction`,
`Wr1SendsTwoBytes`, `WraSendsTheBuffer`, `Rd1AssemblesDraws`, `RdaFillsTheBuffer`): ready states in SPI and in QPI mode, and lengths at
the ends of the ranges. -/
theorem witness_Ready :
    Ready configuredState ∧ configuredState.devMode = .spi ∧ Ready quadState ∧ quadState.devMode = .qpi
      ∧ (let s := { configuredState with devResetArmed := true };
        Ready s ∧ s.devMode = .spi ∧ s.devResetArmed = true)
      ∧ (3 : Word) ≠ 2 ∧ (0 : Word).toNat < 1 ∧ 4 < (5 : Word).toNat ∧ 1 ≤ (1 : Word).toNat ∧ (4 : Word).toNat ≤ 4 ∧ (1 : Word) ≠ 0
      ∧ ¬(Lines.one = .one ∧ (0x03 : Byte) = 0x0B) ∧ ¬(Lines.four = .one ∧ (0x0B : Byte) = 0x0B) := by decide +kernel

/-- `MmapCfgWritesTheModeWord`, `ReleaseMapsAndOpens`, `ModeWordRowsWriteCcr`: their state, and a word for a row of each kind. -/
theorem witness_MmapCfgWritesTheModeWord :
    Quiet configuredState ∧ crEn configuredState.cr = true ∧ configuredState.busy = .zero ∧ configuredState.mode = .indirectAccess
      ∧ windowClosed configuredState = true ∧ ParamsOk configuredState.par
      ∧ encode .tmwRdid = tmwInput 0x0500259F ∧ encode (.tmwCmd 0x35 .one) = tmwInput 0x00000135
      ∧ encode (.tmwWr1 0xC0) = tmwInput 0x010001C0 ∧ encode (.tmwWra 0x38 .four .four .a24 .four) = tmwInput 0x03002F38
      ∧ encode (.tmwWra0 0x38 .four .four .a32) = tmwInput 0x00003F38 ∧ encode (.tmwRd1 0x05) = tmwInput 0x05000105
      ∧ encode (.tmwRda4 0xEB .four .a24 (some .four)) = tmwInput 0x0718EFEB ∧ encode (.tmwRda1 0x03 .a24) = tmwInput 0x05002503
      ∧ encode (.tmwMmapCfg .four .a24 (some .four)) = tmwInput 0x0F18EFEB := by decide +kernel

/-- `UnresponsiveHardwareHangs`: its state, and operands on either side of each boundary of `firstWait`. -/
theorem witness_UnresponsiveHardwareHangs :
    ([.rdid, .cmd 0x35 .one, .wr1 0xC0 2 0, .wra 0x38 .four 0 0 0, .wra 0x38 .four 0 2 0, .rd1 0x05 1, .rd1 0x05 4,
        .rda 0xEB .four 0 4 8, .rda 0xEB .four 0 3 8, .rda 0xEB .four 0 8 10, .rda 0x03 .one 0 16 8, .rda 0x0B .four 0 1 0].map firstWait
      = [some .fifoByteReady, some .transferComplete, some .transferComplete, some .transferComplete, some .fifoNotFull,
        some .transferComplete, some .transferComplete, some .fifoWordReady, some .fifoByteReady, some .fifoByteReady,
        some .fifoWordReady, some .fifoByteReady])
      ∧ Quiet deadState ∧ Settled deadState ∧ ParamsOk deadState.par ∧ deadState.par.responsive = false
      ∧ deadState.mode = .indirectAccess ∧ crEn deadState.cr = true ∧ windowClosed deadState = true ∧ deadState.busy = .zero := by
  decide +kernel

/-- `DeviceModeOpcodes`, `DeviceReadOpcodes`, `DeviceWriteOpcodes`: a device in each mode, armed; no Alt phase and one on four lines; a
write up to the capacity and one byte past it. -/
theorem witness_DeviceModeOpcodes :
    (configuredState.fault = none ∧ configuredState.ph = .idle ∧ configuredState.par.responsive = true
      ∧ configuredState.devMode = .spi)
      ∧ (let s := { quadState with devResetArmed := true };
        s.fault = none ∧ s.ph = .idle ∧ s.par.responsive = true ∧ s.devMode = .qpi ∧ s.devResetArmed = true)
      ∧ (∀ alt ∈ [none, some (AltPhase.mk .four 0xA5)], ∀ x, alt = some x → x.lines = .four)
      ∧ (0x007FFFFF : Word).toNat + [(1 : Byte)].length - max (0x007FFFFF : Word).toNat (capBytes configuredState.par) = 0
      ∧ (0x007FFFFF : Word).toNat + [(1 : Byte), 2].length - max (0x007FFFFF : Word).toNat (capBytes configuredState.par) = 1 := by
  refine ⟨by decide +kernel, by decide +kernel, ?_, by decide +kernel, by decide +kernel⟩
  simp

/-- `UnansweredFramesSpoilTheDevice`, its clause on an opcode outside the table, and `ModeWordRowsWriteCcr`, its clause on a word no
primitive writes. -/
theorem witness_unlisted :
    (0x05 : Byte) ∉ [0x03#8, 0x0B#8, 0xEB#8, 0x02#8, 0x38#8, 0x35#8, 0xF5#8, 0x66#8, 0x99#8, 0xC0#8, 0x9F#8]
      ∧ FrameArgs.wf ⟨.one, some ⟨.one, .a24, 0x00FFFFFF⟩, none, 0, .write .one [1]⟩ = true
      ∧ reservedTmw 0x01000301 = false ∧ reads .tmw (leBytes 0x01000301) = none := by decide +kernel

/-- `UnansweredFramesSpoilTheDevice`: each of its three cases, the last of them READ in QPI mode on four lines. -/
theorem witness_UnansweredFramesSpoilTheDevice :
    ¬TableAnswers quadState 0x03 ⟨.four, some ⟨.four, .a24, 0⟩, none, 0, .read .four 0⟩ ∧
    { quadState with devMode := .unknown }.devMode = .unknown
      ∧ (configuredState.devMode = .spi ∧ Lines.four ≠ .one) ∧ (quadState.devMode = .qpi ∧ Lines.one ≠ quadState.par.quadIlines)
      ∧ quadState.fault = none ∧ quadState.ph = .idle ∧ quadState.par.responsive = true := by
  refine ⟨by simp [TableAnswers, quadState, configuredState], by decide +kernel⟩

/-- `AcquireRecoversTheBus`: idle (where the invariant of the wire holds), and interrupted (where `SR.BUSY` reads 1), which is an
interrupted state of 60_exceptions.md R273. -/
theorem witness_AcquireRecoversTheBus :
    (Quiet configuredState ∧ configuredState.mode ≠ .uninitialized ∧ crAbort configuredState.cr = false ∧ WireInv configuredState)
      ∧ (Quiet interruptedState ∧ interruptedState.mode ≠ .uninitialized ∧ crAbort interruptedState.cr = false
        ∧ busyReads interruptedState = true ∧ Interrupted interruptedState) := by decide +kernel

/-- `AbortEndsTheFrame`. -/
theorem witness_AbortEndsTheFrame : Quiet interruptedState ∧ crEn interruptedState.cr = true := by decide +kernel

/-- `MisuseIsRecordedFirst`: a state for each clause; a range one byte too long; a second context at the first and the last place of
INITIALIZE. -/
theorem witness_MisuseIsRecordedFirst :
    (Quiet State.reset ∧ State.reset.mode = .uninitialized ∧ crEn State.reset.cr = false)
      ∧ (Quiet mappedState ∧ mappedState.mode ≠ .indirectAccess ∧ mappedState.mode ≠ .uninitialized)
      ∧ isOperation .initialise = true ∧ State.reset.fault = none ∧ paramsLegal State.reset.par = true
      ∧ (∀ j ∈ [0, 6], j ≤ 6 ∧ ends (exec .initialise { State.reset with sched := List.replicate j [] ++ [.present] :: [] })
        (fun t => t.fault == some (.misuse .reentrant)))
      ∧ (2 : Word) ≠ 0 ∧ capBytes mappedState.par < (0x007FFFFF : Word).toNat + (2 : Word).toNat := by decide +kernel

/-- `SecondInitIntervalWedges`: the first and the last place of the interval, the last word of the capacity. -/
theorem witness_SecondInitIntervalWedges :
    ∀ j ∈ [3, 5],
      let s := { mappedState with sched := List.replicate j [] ++ [.cpu ⟨.load, 0x907FFFFC, .b4⟩] :: [] };
      s.fault = none ∧ paramsLegal s.par = true ∧ 3 ≤ j ∧ j ≤ 5
        ∧ s.sched = List.replicate j [] ++ [.cpu ⟨.load, 0x907FFFFC, .b4⟩] :: []
        ∧ spanBase s.par ≤ (0x907FFFFC : Word).toNat
        ∧ (0x907FFFFC : Word).toNat + sizeBytes .b4 ≤ spanBase s.par + Config.spanBytes
        ∧ allowed s (0x907FFFFC : Word).toNat = true ∧ allowed s ((0x907FFFFC : Word).toNat + sizeBytes .b4 - 1) = true := by
  decide +kernel

/-- `InitBringsTheDeviceUp`, `SecondInitLeavesTheSameBlockState`: power-on. -/
theorem witness_InitBringsTheDeviceUp :
    Quiet State.reset ∧ ParamsOk State.reset.par ∧ State.reset.par.responsive = true ∧ State.reset.devMode = .spi
      ∧ State.reset.par.quadIlines = .four := by decide +kernel

/-- `ReadIsAcquireRdaRelease`, `WriteIsAcquireWraRelease`, `WindowIsCoherentWithWrite`: before and after the first RELEASE, a range
that ends at the capacity. -/
theorem witness_ReadIsAcquireRdaRelease :
    LibraryReady quadState ∧ quadState.sched = [] ∧ LibraryReady prefetchState ∧ LibraryReady mappedState ∧ mappedState.sched = []
      ∧ (4 : Word) ≠ 0
      ∧ 3 < (4 : Word).toNat ∧ (0x007FFFFC : Word).toNat + (4 : Word).toNat ≤ capBytes mappedState.par := by
  refine ⟨by decide +kernel, by decide +kernel, by decide +kernel, by decide +kernel, by decide +kernel⟩

/-- `ReadFillsTheBufferUnderSpeculation`, `WriteStoresTheBufferUnderSpeculation`, `WriteThenReadRoundTrip`: a schedule with a wire
step and a speculative access. -/
theorem witness_ReadFillsTheBufferUnderSpeculation :
    let s := { mappedState with sched := [[.cpu ⟨.spec, 0x90000100, .b4⟩], [], [.wire, .cpu ⟨.spec, 0x90800000, .b1⟩]] };
    LibraryReady s ∧ HarmlessSched s ∧ (1 : Word) ≠ 0 ∧ (0x007FFFFF : Word).toNat + (1 : Word).toNat ≤ capBytes s.par := by
  decide +kernel

/-- `LibraryKeepsTheBracketing`: INIT from a closed window and READ end normally. -/
theorem witness_LibraryKeepsTheBracketing :
    (let s := closed State.reset;
      s.fault = none ∧ ParamsOk s.par ∧ s.par.responsive = true ∧ s.devMode = .spi ∧ s.ph = .idle ∧ windowClosed s = true
        ∧ ends (exec .init s) (fun t => t.fault == none && t.opDone))
      ∧ LibraryReady mappedState ∧ ends (exec (.read 0 1 0) mappedState) (fun t => t.fault == none && t.opDone) := by
  decide +kernel

/-- `DeniedAccessesDoNothing`: outside by one byte, denied at its last byte. -/
theorem witness_DeniedAccessesDoNothing :
    mappedState.fault = none
      ∧ ¬(spanBase mappedState.par ≤ (0x9FFFFFFD : Word).toNat
        ∧ (0x9FFFFFFD : Word).toNat + sizeBytes .b4 ≤ spanBase mappedState.par + Config.spanBytes)
      ∧ (spanBase mappedState.par ≤ (0x907FFFFD : Word).toNat
        ∧ (0x907FFFFD : Word).toNat + sizeBytes .b4 ≤ spanBase mappedState.par + Config.spanBytes
        ∧ ¬(allowed mappedState (0x907FFFFD : Word).toNat = true
          ∧ allowed mappedState ((0x907FFFFD : Word).toNat + sizeBytes .b4 - 1) = true)) := by decide +kernel

/-- `UnmappedAccessesWedge`: not memory-mapped, not enabled; `StoresThroughTheWindowAreUnsupported` and
`MappedAccessesReadTheDevice`: a state with none of these, the wire idle, and one with a frame on it. -/
theorem witness_UnmappedAccessesWedge :
    spanBase mappedState.par ≤ (0x907FFFFC : Word).toNat
      ∧ (0x907FFFFC : Word).toNat + sizeBytes .b4 ≤ spanBase mappedState.par + Config.spanBytes
      ∧ (0x907FFFFC : Word).toNat + sizeBytes .b4 ≤ spanBase mappedState.par + capBytes mappedState.par
      ∧ (∀ s ∈ [{ mappedState with ccr := 0 }, { mappedState with cr := 0 }, mappedState],
        s.fault = none ∧ allowed s (0x907FFFFC : Word).toNat = true
          ∧ allowed s ((0x907FFFFC : Word).toNat + sizeBytes .b4 - 1) = true)
      ∧ ccrMapped { mappedState with ccr := 0 }.ccr = false ∧ crEn { mappedState with cr := 0 }.cr = false
      ∧ mappedState.ph = .idle ∧ prefetchState.ph ≠ .idle ∧ crEn mappedState.cr = true ∧ ccrMapped mappedState.ccr = true
      ∧ (∀ s ∈ [mappedState, prefetchState],
        LibraryReady s ∧ s.mode = .memoryMapped ∧ (s.par.altEn = true → s.abr = 0)) := by decide +kernel

end Sys2Proof.Tests
end

section
/-! PROOF. What an instruction runs: the micro-steps of a host operation, or the one step of another agent. The statements about every
instruction that need no more than this: O3, O4, and the invariant after reset, O6. -/

namespace Sys2Proof.Machine

/-- What an instruction runs: a host operation, with places for the other agents, or one step of one agent. -/
inductive Work where
  | operation (ms : List Micro)
  | agent (m : Micro)

/-- An operation stands between `beginOp` and `endOp`; the step of an agent does not. -/
def Work.run (w : Work) (s : State) : Host.Outcome State Fault Refusal :=
  match w with
  | .operation ms => runOp ms s
  | .agent m => runStep m s

/-- The work of every instruction, under the straps `p`; `exec_eq_run` ties it to the model. -/
def workOf (p : Params) (i : Instr) : Work :=
  match i with
  | .configure => .operation (configureSteps p)
  | .denyAll => .operation [denyStep]
  | .allowMapped => .operation [allowStep]
  | .rdid => .operation rdidSteps
  | .cmd o n => .operation (cmdSteps o n)
  | .wr1 o len q => .operation (wr1Steps o len q)
  | .wra o n a len q => .operation (wraSteps p o n a len q)
  | .rd1 o len => .operation (rd1Steps o len)
  | .rda o n a len q => .operation (rdaSteps p o n a len q)
  | .mmapCfg => .operation (mmapSteps p)
  | .abort => .operation abortSteps
  | .initialise => .operation (initialiseSteps p)
  | .acquire => .operation acquireSteps
  | .release => .operation (releaseSteps p)
  | .init => .operation (initSteps p)
  | .read a len q => .operation (readSteps p a len q)
  | .write a len q => .operation (writeSteps p a len q)
  | .reserved0E => .operation [raise (.unsupported (.reservedSelector 0x0E))]
  | .reserved0F => .operation [raise (.unsupported (.reservedSelector 0x0F))]
  | .reserved13 => .operation [raise (.unsupported (.reservedSelector 0x13))]
  | .reserved14 => .operation [raise (.unsupported (.reservedSelector 0x14))]
  | .reserved15 => .operation [raise (.unsupported (.reservedSelector 0x15))]
  | .reserved16 => .operation [raise (.unsupported (.reservedSelector 0x16))]
  | .reserved17 => .operation [raise (.unsupported (.reservedSelector 0x17))]
  | .reserved18 => .operation [raise (.unsupported (.reservedSelector 0x18))]
  | .reserved19 => .operation [raise (.unsupported (.reservedSelector 0x19))]
  | .reserved1A => .operation [raise (.unsupported (.reservedSelector 0x1A))]
  | .reserved1B => .operation [raise (.unsupported (.reservedSelector 0x1B))]
  | .reserved1C => .operation [raise (.unsupported (.reservedSelector 0x1C))]
  | .reserved1D => .operation [raise (.unsupported (.reservedSelector 0x1D))]
  | .reserved1E => .operation [raise (.unsupported (.reservedSelector 0x1E))]
  | .reserved1F => .operation [raise (.unsupported (.reservedSelector 0x1F))]
  | .cpuLoad a k => .agent (mappedAccess .load a k)
  | .cpuStore a k _ => .agent (mappedAccess .store a k)
  | .cpuFetch a k => .agent (mappedAccess .fetch a k)
  | .cpuSpec a k => .agent (mappedAccess .spec a k)
  | .tmwRdid => .agent (tmwRow commonPre tmwRdidWord)
  | .tmwCmd o il => .agent (tmwRow commonPre (tmwPack 0b00 0b00 0 0b00 0b00 0b00 (lineCode il) o))
  | .tmwWr1 o => .agent (tmwRow commonPre (tmwPack 0b00 0b01 0 0b00 0b00 0b00 0b01 o))
  | .tmwWra o il al sz dl =>
    .agent (tmwRow commonPre (tmwPack 0b00 (lineCode dl) 0 0b00 (asizeCode sz) (lineCode al) (lineCode il) o))
  | .tmwWra0 o il al sz =>
    .agent (tmwRow commonPre (tmwPack 0b00 0b00 0 0b00 (asizeCode sz) (lineCode al) (lineCode il) o))
  | .tmwRd1 o => .agent (tmwRow commonPre (tmwPack 0b01 0b01 0 0b00 0b00 0b00 0b01 o))
  | .tmwRda4 o il sz abl =>
    .agent (tmwRow commonPre (tmwPack 0b01 0b11 6 (lineCodeOpt abl) (asizeCode sz) 0b11 (lineCode il) o))
  | .tmwRda1 o sz => .agent (tmwRow commonPre (tmwPack 0b01 0b01 0 0b00 (asizeCode sz) 0b01 0b01 o))
  | .tmwMmapCfg il sz abl =>
    .agent (tmwRow mmapPre (tmwPack 0b11 0b11 6 (lineCodeOpt abl) (asizeCode sz) 0b11 (lineCode il) 0xEB))
  | .opRead f => .agent (deviceFrame 0x03 f)
  | .opFastRead f => .agent (deviceFrame 0x0B f)
  | .opQuadRead f => .agent (deviceFrame 0xEB f)
  | .opWrite f => .agent (deviceFrame 0x02 f)
  | .opQuadWrite f => .agent (deviceFrame 0x38 f)
  | .opEnterQuad f => .agent (deviceFrame 0x35 f)
  | .opExitQuad f => .agent (deviceFrame 0xF5 f)
  | .opResetEnable f => .agent (deviceFrame 0x66 f)
  | .opReset f => .agent (deviceFrame 0x99 f)
  | .opSetBurst f => .agent (deviceFrame 0xC0 f)
  | .opReadId f => .agent (deviceFrame 0x9F f)
  | .rgnAttrOuter srd => .agent (loadOuter (rgnOuterWith p srd))
  | .rgnAttrMid srd => .agent (loadMid (rgnMidWith p srd))
  | .rgnAttrInner srd => .agent (loadInner (rgnInnerWith p srd))
  | .crLoad prescaler sshift => .agent (loadCr (crPack prescaler sshift false))
  | .dcrLoad fsize csht => .agent (loadDcr (dcrPack fsize csht))

theorem exec_eq_run (i : Instr) (s : State) : exec i s = (workOf s.par i).run s := by
  cases i <;> rfl

/-- The state in which work that is run with no outcome recorded ends. -/
def Work.after (w : Work) (s : State) : State :=
  match w with
  | .operation ms => endOp (runMicros ms (beginOp s))
  | .agent m => m s

theorem Work.run_of_none (w : Work) (s : State) (h : s.fault = none) : w.run s = .next (w.after s) := by
  cases w with
  | operation ms => exact runOp_none ms s h
  | agent m => exact runStep_none m s h

theorem Work.run_of_fault (w : Work) (s : State) (f : Fault) (h : s.fault = some f) : w.run s = .fault f := by
  cases w <;> simp [Work.run, runOp, runStep, h]

theorem exec_of_none (i : Instr) (s : State) (h : s.fault = none) : exec i s = .next ((workOf s.par i).after s) := by
  rw [exec_eq_run, Work.run_of_none _ s h]

theorem exec_of_fault (i : Instr) (s : State) (f : Fault) (h : s.fault = some f) : exec i s = .fault f := by
  rw [exec_eq_run, Work.run_of_fault _ s f h]

/-- An instruction that answers a next state ran its work in a state with no outcome recorded. -/
theorem exec_next_iff (i : Instr) (s t : State) :
    exec i s = .next t ↔ s.fault = none ∧ t = (workOf s.par i).after s := by
  cases h : s.fault with
  | none => simp [exec_of_none i s h, eq_comm]
  | some f => simp [exec_of_fault i s f h]

/-! ### A step -/

theorem step_of_fault (s : State) (f : Fault) (h : s.fault = some f) : step s = .fault f := by
  simp [step, h]

theorem step_idle (s : State) (h : s.fault = none) (hi : s.inputs = []) : step s = .next (wireStep s) := by
  simp [step, h, hi]

theorem step_row (s : State) (x : Input) (rest : List Input) (i : Instr) (h : s.fault = none) (hi : s.inputs = x :: rest)
    (hd : decode x = .ok i) : step s = exec i { s with inputs := rest } := by
  simp [step, h, hi, hd]

theorem step_unlisted (s : State) (x : Input) (rest : List Input) (e : DecodeError) (h : s.fault = none)
    (hi : s.inputs = x :: rest) (hd : decode x = .error e) :
    step s = .next (presentUnlisted e { s with inputs := rest }) := by
  simp [step, h, hi, hd, runStep]

/-- Everything a step that answers a next state can be: the wire engine's, an instruction's, or that of a presentation that is no
row. -/
theorem step_next_cases (s t : State) (h : step s = .next t) :
    s.fault = none ∧
      (t = wireStep s
        ∨ (∃ (rest : List Input) (i : Instr), t = (workOf s.par i).after { s with inputs := rest })
        ∨ ∃ (x : Input) (rest : List Input) (e : DecodeError),
            decode x = .error e ∧ t = presentUnlisted e { s with inputs := rest }) := by
  rcases Option.eq_none_or_eq_some s.fault with hf | ⟨f, hf⟩
  · refine ⟨hf, ?_⟩
    cases hi : s.inputs with
    | nil =>
      rw [step_idle s hf hi] at h
      cases h
      exact .inl rfl
    | cons x rest =>
      cases hd : decode x with
      | ok i =>
        rw [step_row s x rest i hf hi hd] at h
        obtain ⟨-, ht⟩ := (exec_next_iff _ _ _).1 h
        exact .inr (.inl ⟨rest, i, ht⟩)
      | error e =>
        rw [step_unlisted s x rest e hf hi hd] at h
        cases h
        exact .inr (.inr ⟨x, rest, e, hd, rfl⟩)
  · simp [step_of_fault s f hf] at h

/-- Nothing is refused: a step with no outcome recorded answers a next state. -/
theorem step_total (s : State) (h : s.fault = none) : ∃ t, step s = .next t := by
  cases hi : s.inputs with
  | nil => exact ⟨_, step_idle s h hi⟩
  | cons x rest =>
    cases hd : decode x with
    | ok i => exact ⟨_, (step_row s x rest i h hi hd).trans (exec_of_none i _ h)⟩
    | error e => exact ⟨_, step_unlisted s x rest e h hi hd⟩

/-- Settles O3, by the cases of `step`. -/
theorem stepRunsDecodedInstruction : Obligations.StepRunsDecodedInstruction := by
  refine ⟨fun s x rest i hf hi hd => step_row s x rest i hf hi hd, fun s hf hi => ⟨step_idle s hf hi, fun hp ha => ?_⟩,
    step_total⟩
  rw [step_idle s hf hi, wireStep_still s ha (.inr hp)]

/-- Settles O4: a recorded outcome stops `step` and the work of every instruction. -/
theorem recordedOutcomeIsNeverCleared : Obligations.RecordedOutcomeIsNeverCleared :=
  fun s f h => ⟨step_of_fault s f h, fun i => exec_of_fault i s f h⟩

/-- Settles O6: the wire is idle, the registers are 0 and the memories empty. -/
theorem resetMeetsInvariant : Obligations.ResetMeetsInvariant := by
  have hwire : WireInv State.reset := by decide
  have hreg : RegInv State.reset := ⟨by decide, fun _ => by decide, by decide, .inl rfl⟩
  have hmem : MemInv State.reset := ⟨rfl, rfl, fun _ hc => absurd hc (by simp [State.reset])⟩
  exact ⟨fun _ => ⟨hwire, hreg⟩, hmem, rfl⟩

end Sys2Proof.Machine
end

section
/-! PROOF. What the wire engine and the device leave as it was: every field but those `State.still` erases. One lemma for each operation
of the wire engine, in the order of their definitions. -/

namespace Sys2Proof.Machine

/-- The state without what the wire engine, the device, and a served CPU access write. -/
def State.still (s : State) : State :=
  { s with
    cr := 0, tcf := false, busy := .zero, fifo := [], ph := .idle, wireBytes := [], mapAddr := 0, mapLen := 0, nCS := true
    clk := false, io := .undriven, psram := [], psramEpoch := 0, devMode := .spi, devBurst := 0, devResetArmed := false
    cpuRdata := 0, trace := [], draws := 0 }

/-- `t` is `s` but for what the wire engine, the device and a served access write, its trace continues that of `s`, and no abort is
requested. -/
structure Kept (s t : State) : Prop where
  still : t.still = s.still
  trace : s.trace <+: t.trace
  abort : crAbort s.cr = false → crAbort t.cr = false

theorem Kept.refl (s : State) : Kept s s := ⟨rfl, List.prefix_rfl, id⟩

theorem Kept.trans {s u t : State} (h : Kept s u) (h' : Kept u t) : Kept s t :=
  ⟨h'.still.trans h.still, h.trace.trans h'.trace, h'.abort ∘ h.abort⟩

theorem Kept.fault {s t : State} (h : Kept s t) : t.fault = s.fault := (congrArg State.fault h.still :)
theorem Kept.unwound {s t : State} (h : Kept s t) : t.unwound = s.unwound := (congrArg State.unwound h.still :)
theorem Kept.ccr {s t : State} (h : Kept s t) : t.ccr = s.ccr := (congrArg State.ccr h.still :)
theorem Kept.dlr {s t : State} (h : Kept s t) : t.dlr = s.dlr := (congrArg State.dlr h.still :)

theorem Kept.halted {s t : State} (h : Kept s t) : halted t = halted s := by
  simp [Machine.halted, h.fault, h.unwound]

theorem kept_emit (e : Event) (s : State) : Kept s (emit e s) := ⟨rfl, List.prefix_append _ _, id⟩

theorem kept_beginMapped (a : Word) (n : Nat) (s : State) : Kept s (beginMapped a n s) := ⟨rfl, List.prefix_rfl, id⟩

/-! ### The device -/

theorem kept_deviceLatch (ans : DevAnswer) {s t : State} (hk : Kept s t) : Kept s (deviceLatch ans t) := by
  rcases deviceLatch_cases ans t with ⟨-, h⟩ | ⟨-, h⟩ <;> rw [h]
  · exact ⟨hk.still, hk.trace, hk.abort⟩
  · exact hk

theorem kept_devWriteByte (ans : DevAnswer) (i : Nat) (b : Byte) {s t : State} (hk : Kept s t) :
    Kept s (devWriteByte ans i b t) := by
  rcases devWriteByte_cases ans i b t with ⟨a, -, -, h⟩ | ⟨a, -, -, h⟩ | h <;> rw [h]
  · exact ⟨hk.still, hk.trace, hk.abort⟩
  · exact ⟨hk.still, hk.trace, hk.abort⟩
  · exact hk

theorem kept_devWriteBytes (ans : DevAnswer) (i : Nat) (bs : List Byte) (s : State) : Kept s (devWriteBytes ans i bs s) := by
  induction bs generalizing i s with
  | nil => exact .refl s
  | cons b rest ih => exact (kept_devWriteByte ans i b (.refl s)).trans (ih _ _)

theorem kept_deviceEnd (ans : DevAnswer) (bytes : List Byte) {s t : State} (hk : Kept s t) : Kept s (deviceEnd ans bytes t) := by
  obtain ⟨_, _, _, _, _, _, h, -⟩ := deviceEnd_eq ans bytes t
  rw [h]
  exact ⟨hk.still, hk.trace, hk.abort⟩

theorem kept_deviceData (ans : DevAnswer) (d : FrameData) (s : State) : Kept s (deviceData ans d s).2 := by
  cases d with
  | absent => exact .refl s
  | read _ last => exact ⟨rfl, List.prefix_rfl, id⟩
  | write _ bytes => exact kept_devWriteBytes ans 0 bytes s

/-! ### The flags and the FIFO -/

theorem kept_refreshBusy {s t : State} (hk : Kept s t) : Kept s (refreshBusy t) := by
  rw [refreshBusy_eq]
  exact ⟨hk.still, hk.trace, hk.abort⟩

theorem kept_readBusy (s : State) : Kept s (readBusy s).2 := by
  rw [readBusy_eq]
  exact ⟨rfl, List.prefix_rfl, id⟩

/-- A read of `DR` that the FIFO allows. -/
theorem kept_readDr (k : Nat) (s : State) (h : k ≤ s.fifo.length) : Kept s (readDr k s).2 := by
  rcases readDr_cases k s with ⟨hlt, -⟩ | ⟨-, he⟩
  · omega
  · rw [he]
    exact kept_refreshBusy ⟨rfl, List.prefix_rfl, id⟩

/-- A write of `DR` that the FIFO allows. -/
theorem kept_writeDr (k : Nat) (v : Word) (s : State) (h : k ≤ s.par.fifoDepth - s.fifo.length) : Kept s (writeDr k v s) := by
  rcases writeDr_cases k v s with ⟨hlt, -⟩ | ⟨-, he⟩
  · omega
  · rw [he]
    exact ⟨rfl, List.prefix_rfl, id⟩

/-! ### The wire engine -/

theorem kept_emitCutOff (s : State) : Kept s (emitCutOff s) := by
  unfold emitCutOff
  split
  · exact .refl s
  · exact kept_emit _ s

theorem crAbort_clear (cr : Word) : crAbort (crClearAbort cr) = false := by
  simp [crAbort, crClearAbort]

theorem kept_completeAbort (s : State) : Kept s (completeAbort s) :=
  ⟨(kept_emitCutOff s).still, (kept_emitCutOff s).trace, fun _ => crAbort_clear _⟩

theorem kept_finishAbort (s : State) : Kept s (finishAbort s) := by
  unfold finishAbort
  split
  · exact kept_completeAbort s
  · exact .refl s

theorem kept_enterPhase (p : Phase) {s t : State} (hk : Kept s t) : Kept s (enterPhase p t) := by
  rcases enterPhase_cases p t with ⟨-, h⟩ | ⟨-, h⟩ <;> rw [h]
  · exact kept_deviceEnd _ _ ⟨hk.still, hk.trace, hk.abort⟩
  · exact ⟨hk.still, hk.trace, hk.abort⟩

/-- A byte of a write frame leaves the FIFO for the wire and the device. -/
def byteSent (d : DataShape) (b : Byte) (rest : List Byte) (s : State) : State :=
  devWriteByte (answerTo s s.shape) s.wireBytes.length b
    { s with fifo := rest, wireBytes := s.wireBytes ++ [b], io := (byteClocks d.lines .write b).getLastD s.io }

/-- A byte of a read frame goes from the device over the wire into the FIFO. -/
def byteReceived (d : DataShape) (b : Byte) (s : State) : State :=
  { s with
    fifo := s.fifo ++ [b], wireBytes := s.wireBytes ++ [b], draws := s.draws + 1
    io := (byteClocks d.lines .read b).getLastD s.io }

/-- A step of the Data phase: the clock is held, or a byte moves, out of the FIFO or into it; the last one ends the phase. -/
theorem wireData_cases (d : DataShape) (s : State) :
    wireData d s = s
      ∨ (∃ b rest, d.dir = .write ∧ s.fifo = b :: rest ∧
          wireData d s = if s.wireBytes.length + 1 < d.len then byteSent d b rest s else enterPhase .done (byteSent d b rest s))
      ∨ ∃ b, d.dir = .read ∧ s.fifo.length < s.par.fifoDepth ∧
          wireData d s = if s.wireBytes.length + 1 < d.len then byteReceived d b s else enterPhase .done (byteReceived d b s) := by
  unfold wireData
  simp only
  split
  next hd =>
    split
    next => exact .inl rfl
    next b rest hf => exact .inr (.inl ⟨b, rest, hd, hf, rfl⟩)
  next hd =>
    split
    next => exact .inl rfl
    next hlt => exact .inr (.inr ⟨_, hd, by omega, rfl⟩)

theorem kept_byteSent (d : DataShape) (b : Byte) (rest : List Byte) (s : State) : Kept s (byteSent d b rest s) :=
  kept_devWriteByte _ _ _ ⟨rfl, List.prefix_rfl, id⟩

theorem kept_byteReceived (d : DataShape) (b : Byte) (s : State) : Kept s (byteReceived d b s) := ⟨rfl, List.prefix_rfl, id⟩

theorem kept_wireData (d : DataShape) (s : State) : Kept s (wireData d s) := by
  rcases wireData_cases d s with h | ⟨b, rest, -, -, h⟩ | ⟨b, -, -, h⟩ <;> rw [h]
  · exact .refl s
  · split
    · exact kept_byteSent d b rest s
    · exact kept_enterPhase _ (kept_byteSent d b rest s)
  · split
    · exact kept_byteReceived d b s
    · exact kept_enterPhase _ (kept_byteReceived d b s)

theorem kept_endFrame {s t : State} (hk : Kept s t) : Kept s (endFrame t) :=
  kept_refreshBusy ⟨hk.still, hk.trace.trans (List.prefix_append _ _), hk.abort⟩

theorem kept_wireMapped (d : DataShape) (s : State) : Kept s (wireMapped d s) := by
  simp only [wireMapped]
  split
  · exact ⟨rfl, List.prefix_rfl, id⟩
  · exact kept_endFrame ⟨rfl, List.prefix_rfl, id⟩

theorem kept_wireStep (s : State) : Kept s (wireStep s) := by
  unfold wireStep
  split
  · exact kept_completeAbort s
  split
  · exact .refl s
  split
  · exact .refl s
  · exact kept_enterPhase _ (kept_deviceLatch _ ⟨rfl, List.prefix_rfl, id⟩)
  · exact kept_enterPhase _ ⟨rfl, List.prefix_rfl, id⟩
  · exact kept_enterPhase _ ⟨rfl, List.prefix_rfl, id⟩
  · exact kept_enterPhase _ ⟨rfl, List.prefix_rfl, id⟩
  · split
    · split
      · exact kept_wireMapped _ s
      · exact kept_wireData _ s
    · exact kept_enterPhase _ (.refl s)
  · exact kept_endFrame (.refl s)

/-! ### Frames of the CPU's accesses -/

theorem kept_finishMapped (s : State) : Kept s (finishMapped s) := by
  unfold finishMapped
  split
  · exact .refl s
  · exact kept_endFrame ⟨rfl, List.prefix_rfl, id⟩

/-- A served access: the registers of its frame, the device's latch, what has moved, and the frame whole or still on the wire. Only a
frame without a Data phase, which is whole, does more to the device. -/
theorem serveMapped_cases (kind : CpuKind) (a : Word) (k : CpuSize) (s : State) :
    ∃ (ans : DevAnswer) (bytes : List Byte) (d : Nat) (whole : Bool) (io : LineClock) (rd : Word) (es : List Event) (served : State),
      served = { deviceLatch ans (beginMapped a (sizeBytes k) s) with
          wireBytes := bytes, draws := d, clk := false, nCS := whole, ph := if whole then .idle else .data
          io := if whole then .undriven else io, cpuRdata := rd, trace := s.trace ++ es }
        ∧ (serveMapped kind a k s = served ∨ serveMapped kind a k s = deviceEnd ans [] served) := by
  unfold serveMapped
  simp only
  split
  · exact ⟨_, _, _, _, _, _, _, _, rfl, .inr rfl⟩
  · exact ⟨_, _, _, _, _, _, _, _, rfl, .inl rfl⟩

theorem kept_serveMapped (kind : CpuKind) (a : Word) (k : CpuSize) (s : State) : Kept s (serveMapped kind a k s) := by
  obtain ⟨ans, bytes, d, whole, io, rd, es, served, hserved, h⟩ := serveMapped_cases kind a k s
  have hlatch : Kept s (deviceLatch ans (beginMapped a (sizeBytes k) s)) := kept_deviceLatch ans (kept_beginMapped a _ s)
  have hk : Kept s served := by
    rw [hserved]
    exact ⟨hlatch.still, List.prefix_append _ _, hlatch.abort⟩
  rcases h with h | h <;> rw [h]
  · exact hk
  · exact kept_deviceEnd _ _ hk

end Sys2Proof.Machine
end

section
/-! PROOF. The induction over what runs, once: a property that the steps of the other agents keep (`Closed`) is kept at every place where
they may step, by every wait, by every loop of the primitives, and by a whole list of micro-steps each of which keeps it. The statements
about every step choose the property and show the single steps. -/

namespace Sys2Proof.Machine

theorem fault_of_not_halted {s : State} (h : halted s = false) : s.fault = none := ((halted_eq_false s).1 h).1

/-- `m` leads from `I` to `J` when the operation is not halted. -/
def Leads (I J : State → Prop) (m : Micro) : Prop := ∀ s, halted s = false → I s → J (m s)

/-- The single steps that other agents may take, and a wait that never ends, keep `I`. -/
structure Closed (I : State → Prop) : Prop where
  wire : Leads I I wireStep
  access : ∀ kind a k, Leads I I (mappedAccess kind a k)
  reentrant : Leads I I (raise (.misuse .reentrant))
  unwind : Leads I I fun s => { s with unwound := true }
  sched : ∀ rest, Leads I I fun s => { s with sched := rest }
  hang : ∀ w, Leads I I (raiseHang w)

/-! ### The other agents and the waits -/

theorem Closed.takeTurn {I : State → Prop} (hI : Closed I) (t : Turn) : Leads I I (takeTurn t) := by
  cases t with
  | wire => exact hI.wire
  | cpu c => exact hI.access c.kind c.addr c.size
  | present => exact hI.reentrant
  | unwind => exact hI.unwind

theorem Closed.takeTurns {I : State → Prop} (hI : Closed I) (ts : List Turn) : Leads I I (takeTurns ts) := by
  induction ts with
  | nil => exact fun _ _ h => h
  | cons t rest ih =>
    intro s hh hs
    have ht := hI.takeTurn t s hh hs
    simp only [Machine.takeTurns]
    split
    · exact ht
    next hn => exact ih _ (Bool.eq_false_of_not_eq_true hn) ht

theorem Closed.interleave {I : State → Prop} (hI : Closed I) : Leads I I interleave := by
  intro s hh hs
  unfold Machine.interleave
  split
  · exact hs
  next ts rest _ => exact hI.takeTurns ts _ (by simpa [halted] using hh) (hI.sched rest s hh hs)

theorem Closed.waitLoop {I : State → Prop} (hI : Closed I) (cond : State → Bool) (w : Wait) (n : Nat) :
    Leads I I (waitLoop cond w n) := by
  induction n with
  | zero =>
    intro s hh hs
    have hi := hI.interleave s hh hs
    simp only [Machine.waitLoop]
    split
    · exact hi
    next hn =>
      split
      · exact hi
      · exact hI.hang w _ (Bool.eq_false_of_not_eq_true hn) hi
  | succ n ih =>
    intro s hh hs
    have hi := hI.interleave s hh hs
    simp only [Machine.waitLoop]
    split
    · exact hi
    next hn =>
      have hn := Bool.eq_false_of_not_eq_true hn
      split
      · exact hi
      · exact ih _ ((kept_wireStep _).halted.trans hn) (hI.wire _ hn hi)

theorem Closed.waitFor {I : State → Prop} (hI : Closed I) (cond : State → Bool) (w : Wait) : Leads I I (waitFor cond w) := by
  intro s hh hs
  unfold Machine.waitFor
  split
  · exact hI.waitLoop cond w _ s hh hs
  · exact hI.hang w s hh hs

/-- A wait that ends without being halted ends with its condition. -/
theorem waitLoop_cond (cond : State → Bool) (w : Wait) (n : Nat) (s : State) (h : halted (waitLoop cond w n s) = false) :
    cond (waitLoop cond w n s) = true := by
  induction n generalizing s with
  | zero =>
    simp only [waitLoop] at h ⊢
    repeat' split at h
    all_goals simp_all [halted, raiseHang]
  | succ n ih =>
    simp only [waitLoop] at h ⊢
    split at h
    · simp_all
    next hn =>
      rw [if_neg hn]
      split at h
      next hc => rw [if_pos hc]; exact hc
      next hc => rw [if_neg hc]; exact ih _ h

theorem waitFor_cond (cond : State → Bool) (w : Wait) (s : State) (h : halted (waitFor cond w s) = false) :
    cond (waitFor cond w s) = true := by
  unfold waitFor at h ⊢
  split
  next hr => exact waitLoop_cond cond w _ s (by simpa [hr] using h)
  next hr => simp [hr, halted, raiseHang] at h

theorem fifo_of_byteReady {w : Wait} {s : State} (h : halted (waitFor fifoByteReady w s) = false) :
    1 ≤ (waitFor fifoByteReady w s).fifo.length :=
  of_decide_eq_true (waitFor_cond fifoByteReady w s h)

theorem fifo_of_wordReady {w : Wait} {s : State} (h : halted (waitFor fifoWordReady w s) = false) :
    4 ≤ (waitFor fifoWordReady w s).fifo.length :=
  of_decide_eq_true (waitFor_cond fifoWordReady w s h)

theorem fifo_of_notFull {w : Wait} {s : State} (h : halted (waitFor fifoNotFull w s) = false) :
    (waitFor fifoNotFull w s).fifo.length < (waitFor fifoNotFull w s).par.fifoDepth :=
  of_decide_eq_true (waitFor_cond fifoNotFull w s h)

/-! ### The loops of the primitives -/

/-- A read of `DR` that the FIFO allows raises nothing. -/
theorem halted_readDr (k : Nat) (s : State) (h : k ≤ s.fifo.length) : halted (readDr k s).2 = halted s :=
  (kept_readDr k s h).halted

theorem halted_writeDr (k : Nat) (v : Word) (s : State) (h : k ≤ s.par.fifoDepth - s.fifo.length) :
    halted (writeDr k v s) = halted s :=
  (kept_writeDr k v s h).halted

/-- Reads of `DR` that the FIFO allows keep `I`. -/
abbrev ReadsKeep (I : State → Prop) : Prop := ∀ k s, halted s = false → k ≤ s.fifo.length → I s → I (readDr k s).2

theorem Closed.takeBytes {I : State → Prop} (hI : Closed I) (hr : ReadsKeep I) (n : Nat) :
    Leads I I fun s => (takeBytes n s).2 := by
  induction n with
  | zero => exact fun _ _ h => h
  | succ n ih =>
    intro s hh hs
    have hi := hI.waitFor fifoByteReady .fifoByteReady s hh hs
    simp only [Machine.takeBytes]
    split
    · exact hi
    next hn =>
      have hn := Bool.eq_false_of_not_eq_true hn
      have hc := fifo_of_byteReady hn
      exact ih _ (by rwa [halted_readDr 1 _ hc]) (hr 1 _ hn hc hi)

theorem Closed.drainWords {I : State → Prop} (hI : Closed I) (hr : ReadsKeep I) (hb : ∀ q bs, Leads I I (bufWrite q bs))
    (k q : Nat) : Leads I I (drainWords k q) := by
  induction k generalizing q with
  | zero => exact fun _ _ h => h
  | succ k ih =>
    intro s hh hs
    have hi := hI.waitFor fifoWordReady .fifoWordReady s hh hs
    simp only [Machine.drainWords]
    split
    · exact hi
    next hn =>
      have hn := Bool.eq_false_of_not_eq_true hn
      have hc := fifo_of_wordReady hn
      have hd := (halted_readDr 4 _ hc).trans hn
      exact ih _ _ hd (hb _ _ _ hd (hr 4 _ hn hc hi))

theorem Closed.drainBytes {I : State → Prop} (hI : Closed I) (hr : ReadsKeep I) (hb : ∀ q bs, Leads I I (bufWrite q bs))
    (k q : Nat) : Leads I I (drainBytes k q) := by
  induction k generalizing q with
  | zero => exact fun _ _ h => h
  | succ k ih =>
    intro s hh hs
    have hi := hI.waitFor fifoByteReady .fifoByteReady s hh hs
    simp only [Machine.drainBytes]
    split
    · exact hi
    next hn =>
      have hn := Bool.eq_false_of_not_eq_true hn
      have hc := fifo_of_byteReady hn
      have hd := (halted_readDr 1 _ hc).trans hn
      exact ih _ _ hd (hb _ _ _ hd (hr 1 _ hn hc hi))

theorem Closed.drain {I : State → Prop} (hI : Closed I) (hr : ReadsKeep I) (hb : ∀ q bs, Leads I I (bufWrite q bs))
    (n p : Nat) : Leads I I (drain n p) := by
  intro s hh hs
  simp only [Machine.drain]
  split
  · have hw := hI.drainWords hr hb (n / 4) p s hh hs
    split
    · exact hw
    next hn => exact hI.drainBytes hr hb _ _ _ (Bool.eq_false_of_not_eq_true hn) hw
  · exact hI.drainBytes hr hb n p s hh hs

/-- The write loop, by a property of the bytes still to be pushed. -/
theorem pushBytes_leads {I : Nat → State → Prop} (hI : ∀ n, Closed (I n))
    (hw : ∀ n v s, halted s = false → s.fifo.length < s.par.fifoDepth → I (n + 1) s → I n (writeDr 1 v s))
    (hh : ∀ n s, halted s = true → I n s → I 0 s) (n q : Nat) : Leads (I n) (I 0) (pushBytes n q) := by
  induction n generalizing q with
  | zero => exact fun _ _ h => h
  | succ n ih =>
    intro s hs hi
    have hi := (hI (n + 1)).waitFor fifoNotFull .fifoNotFull s hs hi
    simp only [pushBytes]
    split
    next hn => exact hh _ _ hn hi
    next hn =>
      have hn := Bool.eq_false_of_not_eq_true hn
      have hc := fifo_of_notFull hn
      exact ih _ _ (by rwa [halted_writeDr 1 _ _ (by omega)]) (hw n _ _ hn hc hi)

theorem Closed.readIdentification {I : State → Prop} (hI : Closed I) (hr : ReadsKeep I) (hp : ∀ id, Leads I I (report id)) :
    Leads I I readIdentification := by
  intro s hh hs
  have ht := hI.takeBytes hr 8 s hh hs
  simp only [Machine.readIdentification]
  split
  · exact ht
  next hn =>
    have hset := hI.waitFor wireIdle .transferComplete _ (Bool.eq_false_of_not_eq_true hn) ht
    split
    · exact hset
    next hn' => exact hp _ _ (Bool.eq_false_of_not_eq_true hn') hset

/-- RD1's bytes, and its result where the bytes are there. -/
theorem Closed.assembleWord {I : State → Prop} (hI : Closed I) (hr : ReadsKeep I)
    (ho : ∀ v, Leads I I fun s => { s with opWord := v }) (n : Nat) : Leads I I (assembleWord n) := by
  intro s hh hs
  have ht := hI.takeBytes hr n s hh hs
  simp only [Machine.assembleWord]
  split
  · exact ht
  next hn => exact ho _ _ (Bool.eq_false_of_not_eq_true hn) ht

/-! ### Lists of micro-steps -/

/-- The micro-steps in order, by a property before, one after the first micro-step, and one at the end, which an operation that is halted
early meets too. -/
theorem runMicros_cons_leads {I J K : State → Prop} {m : Micro} {ms : List Micro} (hI : Closed I)
    (hIK : ∀ s, halted s = true → I s → K s) (hJK : ∀ s, halted s = true → J s → K s) (hm : Leads I J m)
    (hms : Leads J K (runMicros ms)) : Leads I K (runMicros (m :: ms)) := by
  intro s hh hs
  have hi := hI.interleave s hh hs
  simp only [runMicros]
  split
  next hn => exact hIK _ hn hi
  next hn =>
    have hj := hm _ (Bool.eq_false_of_not_eq_true hn) hi
    split
    next hn' => exact hJK _ hn' hj
    next hn' => exact hms _ (Bool.eq_false_of_not_eq_true hn') hj

/-- Two lists of micro-steps one after the other: the second begins unless the first was halted. -/
theorem runMicros_append (xs ys : List Micro) (s : State) (h : halted s = false) :
    runMicros (xs ++ ys) s = if halted (runMicros xs s) then runMicros xs s else runMicros ys (runMicros xs s) := by
  induction xs generalizing s with
  | nil => simp [h]
  | cons m rest ih =>
    simp only [List.cons_append, runMicros]
    split
    next => simp
    next =>
      split
      next => simp
      next hn => exact ih _ (Bool.eq_false_of_not_eq_true hn)

theorem Closed.runMicros {I : State → Prop} (hI : Closed I) {ms : List Micro} (hms : ∀ m ∈ ms, Leads I I m) :
    Leads I I (runMicros ms) := by
  induction ms with
  | nil => exact fun _ _ h => h
  | cons m rest ih =>
    rw [List.forall_mem_cons] at hms
    exact runMicros_cons_leads hI (fun _ _ h => h) (fun _ _ h => h) hms.1 (ih hms.2)

end Sys2Proof.Machine
end

section
/-! PROOF. Who writes what. `Changes w s t` says that from `s` to `t` the straps and the CPU's interrupt mask are as they were, the trace
is continued, and nothing is written but the parts in `w`. Each micro-step is placed once; O8, O9 and O10 follow for every instruction. -/

namespace Sys2Proof.Machine

/-- The parts of the state that only some operations write (10_state.md R24, R31, R46, R50, R57), and the mark that the caller was
unwound, which only an operation has. -/
inductive Part where
  | mode
  | window
  | config
  | opWord
  | buffer
  | caller

/-- From `s` to `t` nothing of these parts is written that is not in `w`; of the block's parts nothing is said after `Wedged`. -/
structure Changes (w : Part → Bool) (s t : State) : Prop where
  par : t.par = s.par
  irq : t.irqEnabled = s.irqEnabled
  trace : s.trace <+: t.trace
  buffer : w .buffer = false → t.buf = s.buf
  caller : w .caller = false → t.unwound = s.unwound
  mode : isWedged t = false → w .mode = false → t.mode = s.mode
  window : isWedged t = false → w .window = false → t.rgnOuter = s.rgnOuter ∧ t.rgnMid = s.rgnMid ∧ t.rgnInner = s.rgnInner
  config : isWedged t = false → w .config = false → t.dcr = s.dcr ∧ t.pinsEnabled = s.pinsEnabled
  opWord : isWedged t = false → w .opWord = false → t.opWord = s.opWord

/-- What no part of `Changes` speaks of, erased. -/
def State.owned (s : State) : State :=
  { s.still with
    dlr := 0, ccr := 0, ar := 0, abr := 0, irqSaved := false, opDone := false, diagValid := false, diagBytes := 0, fault := none
    inputs := [], sched := [] }

variable {w : Part → Bool} {s t u : State}

theorem Kept.owned (h : Kept s t) : t.owned = s.owned := (congrArg State.owned h.still :)

theorem isWedged_of_fault_none (h : s.fault = none) : isWedged s = false := by
  simp [isWedged, h]

/-- Where nothing is written that any part speaks of, every part is as it was. -/
theorem Changes.of_owned (ho : t.owned = s.owned) (htr : s.trace <+: t.trace) : Changes w s t where
  par := (congrArg State.par ho :)
  irq := (congrArg State.irqEnabled ho :)
  trace := htr
  buffer _ := (congrArg State.buf ho :)
  caller _ := (congrArg State.unwound ho :)
  mode _ _ := (congrArg State.mode ho :)
  window _ _ := ⟨(congrArg State.rgnOuter ho :), (congrArg State.rgnMid ho :), (congrArg State.rgnInner ho :)⟩
  config _ _ := ⟨(congrArg State.dcr ho :), (congrArg State.pinsEnabled ho :)⟩
  opWord _ _ := (congrArg State.opWord ho :)

theorem Changes.refl (s : State) : Changes w s s := .of_owned rfl List.prefix_rfl

theorem Kept.changes (h : Kept s t) : Changes w s t := .of_owned h.owned h.trace

/-- No outcome is recorded in the middle, so it was not `Wedged`. -/
theorem Changes.trans (h : Changes w s u) (hu : u.fault = none) (h' : Changes w u t) : Changes w s t where
  par := h'.par.trans h.par
  irq := h'.irq.trans h.irq
  trace := h.trace.trans h'.trace
  buffer hw := (h'.buffer hw).trans (h.buffer hw)
  caller hw := (h'.caller hw).trans (h.caller hw)
  mode ht hw := (h'.mode ht hw).trans (h.mode (isWedged_of_fault_none hu) hw)
  window ht hw := by
    obtain ⟨ho, hm, hi⟩ := h.window (isWedged_of_fault_none hu) hw
    obtain ⟨ho', hm', hi'⟩ := h'.window ht hw
    exact ⟨ho'.trans ho, hm'.trans hm, hi'.trans hi⟩
  config ht hw := by
    obtain ⟨hd, hp⟩ := h.config (isWedged_of_fault_none hu) hw
    obtain ⟨hd', hp'⟩ := h'.config ht hw
    exact ⟨hd'.trans hd, hp'.trans hp⟩
  opWord ht hw := (h'.opWord ht hw).trans (h.opWord (isWedged_of_fault_none hu) hw)

/-! ### Outcomes and registers: micro-steps that write no part -/

theorem changes_raise (f : Fault) (s : State) : Changes w s (raise f s) := .of_owned rfl List.prefix_rfl

theorem changes_raiseHang (v : Wait) (s : State) : Changes w s (raiseHang v s) := .of_owned rfl List.prefix_rfl

/-- A check passes, or raises an outcome. -/
theorem changes_check (c : State → Bool) (f : Fault) (s : State) : Changes w s (if c s then s else raise f s) := by
  split
  · exact .refl s
  · exact changes_raise f s

theorem changes_writeCcr (v : Word) (s : State) : Changes w s (writeCcr v s) := by
  simp only [writeCcr]
  repeat' split
  · exact changes_raise _ s
  · exact .of_owned rfl List.prefix_rfl
  · exact .of_owned rfl List.prefix_rfl

theorem changes_writeTmw (v : Word) (s : State) : Changes w s (writeTmw v s) := by
  simp only [writeTmw]
  split
  · exact changes_writeCcr v s
  next h => exact (changes_writeCcr v s).trans (by simpa using h) (kept_emit _ _).changes

theorem changes_writeAr (a : Word) (s : State) : Changes w s (writeAr a s) := by
  rcases writeAr_cases a s with ⟨h, -⟩ | h <;> rw [h] <;> exact .of_owned rfl List.prefix_rfl

theorem changes_writeDlr (v : Word) (s : State) : Changes w s (writeDlr v s) := .of_owned rfl List.prefix_rfl

theorem changes_writeLength (len : Word) (s : State) : Changes w s (writeLength len s) := by
  unfold writeLength
  split
  · exact .refl s
  · exact changes_writeDlr _ s

theorem changes_writeAlt (on : Bool) (s : State) : Changes w s (writeAlt on s) := by
  cases on
  · exact .refl s
  · exact .of_owned rfl List.prefix_rfl

theorem changes_requestAbort (s : State) : Changes w s (requestAbort s) := .of_owned rfl (List.prefix_append _ _)

theorem changes_clearTcf (s : State) : Changes w s (clearTcf s) := .of_owned rfl List.prefix_rfl

theorem changes_writeDr (k : Nat) (v : Word) (s : State) : Changes w s (writeDr k v s) := by
  rcases writeDr_cases k v s with ⟨-, h⟩ | ⟨-, h⟩ <;> rw [h] <;> exact .of_owned rfl List.prefix_rfl

theorem changes_report (id : List Byte) (s : State) : Changes w s (report id s) := by
  unfold report
  split
  · exact .refl s
  · exact .of_owned rfl (List.prefix_append _ _)

theorem changes_commonPre (s : State) : Changes w s (commonPre s) := by
  have hr := kept_readBusy s
  simp only [commonPre]
  repeat' split
  · exact changes_raise _ s
  · exact changes_raise _ s
  · exact changes_raise _ s
  · exact .of_owned hr.owned hr.trace
  · exact hr.changes

theorem changes_mmapPre (s : State) : Changes w s (mmapPre s) := by
  have hr := kept_readBusy s
  simp only [mmapPre]
  repeat' split
  · exact changes_raise _ s
  · exact .of_owned hr.owned hr.trace
  · exact .of_owned hr.owned hr.trace
  · exact .of_owned hr.owned hr.trace
  · exact hr.changes

theorem changes_accessPre (r : MisuseReason) (a len : Word) (s : State) : Changes w s (accessPre r a len s) := by
  unfold accessPre
  repeat' split
  · exact changes_raise _ s
  · exact changes_raise _ s
  · exact .refl s

theorem changes_tmwRow {pre : Micro} (hpre : ∀ s, Changes w s (pre s)) (v : Word) (s : State) : Changes w s (tmwRow pre v s) := by
  simp only [tmwRow]
  split
  · exact hpre s
  next h => exact (hpre s).trans (by simpa using h) (changes_writeTmw v _)

/-! ### The CPU's accesses, and frames handed to the device -/

theorem changes_mappedAccess (kind : CpuKind) (a : Word) (k : CpuSize) (s : State) : Changes w s (mappedAccess kind a k s) := by
  rcases mappedAccess_cases kind a k s with h | h | h | h | h | h | h <;> rw [h]
  · exact (kept_emit _ s).changes
  · exact (kept_emit _ s).changes
  · exact .of_owned rfl (List.prefix_append _ _)
  · exact
      { par := rfl, irq := rfl, trace := List.prefix_append _ _, buffer := fun _ => rfl, caller := fun _ => rfl
        mode := nofun, window := nofun, config := nofun, opWord := nofun }
  · exact .of_owned rfl (List.prefix_append _ _)
  · exact .of_owned rfl (List.prefix_append _ _)
  · exact ((kept_finishMapped s).trans ((kept_emit _ _).trans (kept_serveMapped _ _ _ _))).changes

theorem changes_deviceFrame (o : Byte) (f : FrameArgs) (s : State) : Changes w s (deviceFrame o f s) := by
  simp only [deviceFrame]
  repeat' split
  · exact changes_raise _ s
  · exact .of_owned rfl List.prefix_rfl
  · exact ((kept_deviceEnd _ _ (kept_deviceLatch _ (kept_deviceData _ _ s))).trans (kept_emit _ _)).changes

/-! ### Micro-steps that write a part -/

theorem changes_setMode (hm : w .mode = true) (m : Mode) (s : State) : Changes w s (setMode m s) :=
  { Changes.refl (w := w) s with
    trace := List.prefix_append _ _
    mode := by simp [hm] }

theorem changes_loadWindow (hw : w .window = true) (o m i : Rgn) (s : State) : Changes w s (loadWindow o m i s) := by
  rw [loadWindow_eq_bracketed]
  exact
    { Changes.refl (w := w) s with
      trace := List.prefix_append _ _
      window := by simp [hw] }

theorem changes_denyStep (hw : w .window = true) (s : State) : Changes w s (denyStep s) := changes_loadWindow hw _ _ _ s

theorem changes_allowStep (hw : w .window = true) (s : State) : Changes w s (allowStep s) := changes_loadWindow hw _ _ _ s

/-- One descriptor is loaded and recorded. -/
theorem changes_loadRgn (hw : w .window = true) (e : Event) (o m i : Rgn) (s : State) :
    Changes w s (emit e { s with rgnOuter := o, rgnMid := m, rgnInner := i }) :=
  { Changes.refl (w := w) s with
    trace := List.prefix_append _ _
    window := by simp [hw] }

theorem changes_loadAttr (hw : w .window = true) (v : Word) (s : State) : Changes w s (loadAttr v s) := by
  rcases loadAttr_cases v s with h | h | h | h | h <;> rw [h]
  · exact changes_raise _ s
  · exact changes_raise _ s
  · exact changes_loadRgn hw _ _ _ _ s
  · exact changes_loadRgn hw _ _ _ _ s
  · exact changes_loadRgn hw _ _ _ _ s

theorem changes_enablePins (hg : w .config = true) (s : State) : Changes w s (enablePins s) :=
  { Changes.refl (w := w) s with config := by simp [hg] }

theorem changes_peripheralReset (hg : w .config = true) (s : State) : Changes w s (peripheralReset s) := by
  have hk := ((kept_emit .periphReset s).trans (kept_emitCutOff _)).changes (w := w)
  exact { hk with config := by simp [hg] }

theorem changes_loadCr (v : Word) (s : State) : Changes w s (loadCr v s) := .of_owned rfl List.prefix_rfl

theorem changes_writeUnlistedCr (v : Word) (s : State) : Changes w s (writeUnlistedCr v s) := by
  unfold writeUnlistedCr
  split
  · exact changes_raise _ s
  · exact .of_owned (kept_finishAbort (loadCr v s)).owned (kept_finishAbort (loadCr v s)).trace

theorem changes_loadDcr (hg : w .config = true) (v : Word) (s : State) : Changes w s (loadDcr v s) :=
  { Changes.refl (w := w) s with
    trace := List.prefix_append _ _
    config := by simp [hg] }

theorem changes_bufWrite (hb : w .buffer = true) (q : Nat) (bs : List Byte) (s : State) : Changes w s (bufWrite q bs s) :=
  { Changes.refl (w := w) s with buffer := by simp [hb] }

theorem changes_opWord (ho : w .opWord = true) (v : Word) (s : State) : Changes w s { s with opWord := v } :=
  { Changes.refl (w := w) s with opWord := by simp [ho] }

/-! ### Micro-steps with places for the other agents -/

/-- A micro-step of an operation writes only the parts in `w`. -/
def Moves (w : Part → Bool) (m : Micro) : Prop := ∀ s₀, Leads (Changes w s₀) (Changes w s₀) m

theorem moves_of_changes {m : Micro} (h : ∀ s, Changes w s (m s)) : Moves w m :=
  fun _ s hh hs => hs.trans (fault_of_not_halted hh) (h s)

/-- The other agents write no part but the mark of the unwound caller. -/
theorem closed_changes (hc : w .caller = true) (s₀ : State) : Closed (Changes w s₀) where
  wire := moves_of_changes (fun s => (kept_wireStep s).changes) s₀
  access kind a k := moves_of_changes (changes_mappedAccess kind a k) s₀
  reentrant := moves_of_changes (changes_raise _) s₀
  unwind s hh hs := hs.trans (fault_of_not_halted hh) { Changes.refl (w := w) s with caller := by simp [hc] }
  sched rest s hh hs := hs.trans (fault_of_not_halted hh) (.of_owned rfl List.prefix_rfl)
  hang v := moves_of_changes (changes_raiseHang v) s₀

theorem reads_changes (s₀ : State) : ReadsKeep (Changes w s₀) :=
  fun k s hh hk hs => hs.trans (fault_of_not_halted hh) (kept_readDr k s hk).changes

section Operations

variable (hc : w .caller = true)
include hc

theorem moves_waitFor (cond : State → Bool) (v : Wait) : Moves w (waitFor cond v) :=
  fun s₀ => (closed_changes hc s₀).waitFor cond v

theorem moves_waitAbort : Moves w waitAbort := fun s₀ => (closed_changes hc s₀).waitLoop _ _ _

theorem moves_abortIfBusy : Moves w abortIfBusy := by
  intro s₀ s hh hs
  have hr := hs.trans (fault_of_not_halted hh) (kept_readBusy s).changes
  have hh' : halted (readBusy s).2 = false := (kept_readBusy s).halted.trans hh
  simp only [abortIfBusy]
  split
  · have hi := (closed_changes hc s₀).interleave _ hh' hr
    split
    · exact hi
    next hn =>
      exact hi.trans (fault_of_not_halted (Bool.eq_false_of_not_eq_true hn)) (changes_requestAbort _)
  · exact hr.trans (fault_of_not_halted hh') (.of_owned rfl List.prefix_rfl)

theorem moves_readIdentification : Moves w readIdentification :=
  fun s₀ => (closed_changes hc s₀).readIdentification (reads_changes s₀) fun id => moves_of_changes (changes_report id) s₀

theorem moves_pushBytes (n q : Nat) : Moves w (pushBytes n q) := fun s₀ =>
  pushBytes_leads (I := fun _ => Changes w s₀) (fun _ => closed_changes hc s₀)
    (fun _ v s hh _ hs => hs.trans (fault_of_not_halted hh) (changes_writeDr 1 v s)) (fun _ _ _ h => h) n q

theorem moves_assembleWord (ho : w .opWord = true) (n : Nat) : Moves w (assembleWord n) := fun s₀ =>
  (closed_changes hc s₀).assembleWord (reads_changes s₀) (fun v => moves_of_changes (changes_opWord ho v) s₀) n

theorem moves_drain (hb : w .buffer = true) (n q : Nat) : Moves w (drain n q) := fun s₀ =>
  (closed_changes hc s₀).drain (reads_changes s₀) (fun q bs => moves_of_changes (changes_bufWrite hb q bs) s₀) n q

/-! ### The operations, by their micro-steps -/

omit hc in
theorem moves_configureSteps (hg : w .config = true) (p : Params) : ∀ m ∈ configureSteps p, Moves w m := by
  simp only [configureSteps, List.forall_mem_cons]
  exact ⟨moves_of_changes (changes_check (fun s => paramsLegal s.par) _), moves_of_changes (changes_enablePins hg),
    moves_of_changes (changes_peripheralReset hg), moves_of_changes (changes_loadCr _), moves_of_changes (changes_loadDcr hg _),
    nofun⟩

omit hc in
theorem moves_initialiseSteps (hg : w .config = true) (hw : w .window = true) (hm : w .mode = true) (p : Params) :
    ∀ m ∈ initialiseSteps p, Moves w m := by
  simp only [initialiseSteps, List.forall_mem_append, List.forall_mem_cons]
  exact ⟨moves_configureSteps hg p, moves_of_changes (changes_denyStep hw), moves_of_changes (changes_setMode hm _), nofun⟩

theorem moves_rdidSteps : ∀ m ∈ rdidSteps, Moves w m := by
  simp only [rdidSteps, List.forall_mem_cons]
  exact ⟨moves_of_changes changes_commonPre, moves_of_changes changes_clearTcf, moves_of_changes (changes_writeDlr _),
    moves_of_changes (changes_writeTmw _), moves_of_changes (changes_writeAr _), moves_readIdentification hc, nofun⟩

theorem moves_cmdSteps (o : Byte) (n : Lines) : ∀ m ∈ cmdSteps o n, Moves w m := by
  simp only [cmdSteps, List.forall_mem_cons]
  exact ⟨moves_of_changes changes_commonPre, moves_of_changes changes_clearTcf, moves_of_changes (changes_writeTmw _),
    moves_waitFor hc _ _, moves_waitFor hc _ _, nofun⟩

theorem moves_wr1Steps (o : Byte) (len q : Word) : ∀ m ∈ wr1Steps o len q, Moves w m := by
  simp only [wr1Steps, List.forall_mem_cons]
  exact ⟨moves_of_changes changes_commonPre, moves_of_changes (changes_check (fun _ => _) _), moves_of_changes changes_clearTcf,
    moves_of_changes (changes_writeDlr _), moves_of_changes (changes_writeTmw _), moves_of_changes fun s => changes_writeDr _ _ s,
    moves_waitFor hc _ _, moves_waitFor hc _ _, nofun⟩

theorem moves_wraSteps (p : Params) (o : Byte) (n : Lines) (a len q : Word) : ∀ m ∈ wraSteps p o n a len q, Moves w m := by
  simp only [wraSteps, List.forall_mem_cons]
  exact ⟨moves_of_changes changes_commonPre, moves_of_changes changes_clearTcf, moves_of_changes (changes_writeLength len),
    moves_of_changes (changes_writeTmw _), moves_of_changes (changes_writeAr _), moves_pushBytes hc _ _,
    moves_waitFor hc _ _, moves_waitFor hc _ _, nofun⟩

theorem moves_rd1Steps (ho : w .opWord = true) (o : Byte) (len : Word) : ∀ m ∈ rd1Steps o len, Moves w m := by
  simp only [rd1Steps, List.forall_mem_cons]
  exact ⟨moves_of_changes changes_commonPre, moves_of_changes (changes_check (fun _ => _) _), moves_of_changes changes_clearTcf,
    moves_of_changes (changes_writeDlr _), moves_of_changes (changes_writeTmw _), moves_waitFor hc _ _,
    moves_assembleWord hc ho _, moves_waitFor hc _ _, nofun⟩

theorem moves_rdaSteps (hb : w .buffer = true) (p : Params) (o : Byte) (n : Lines) (a len q : Word) :
    ∀ m ∈ rdaSteps p o n a len q, Moves w m := by
  simp only [rdaSteps, List.forall_mem_cons]
  exact ⟨moves_of_changes changes_commonPre, moves_of_changes (changes_check (fun _ => _) _),
    moves_of_changes (changes_check (fun _ => _) _), moves_of_changes changes_clearTcf, moves_of_changes (changes_writeDlr _), moves_of_changes (changes_writeAlt _),
    moves_of_changes (changes_writeTmw _), moves_of_changes (changes_writeAr _), moves_drain hc hb _ _, moves_waitFor hc _ _, nofun⟩

omit hc in
theorem moves_mmapSteps (p : Params) : ∀ m ∈ mmapSteps p, Moves w m := by
  simp only [mmapSteps, List.forall_mem_cons]
  exact ⟨moves_of_changes changes_mmapPre, moves_of_changes (changes_writeAlt _), moves_of_changes (changes_writeTmw _), nofun⟩

theorem moves_abortSteps : ∀ m ∈ abortSteps, Moves w m := by
  simp only [abortSteps, List.forall_mem_cons]
  exact ⟨moves_of_changes (changes_check (fun s => crEn s.cr) _), moves_of_changes changes_requestAbort, moves_waitAbort hc, nofun⟩

theorem moves_acquireSteps (hw : w .window = true) (hm : w .mode = true) : ∀ m ∈ acquireSteps, Moves w m := by
  have hpre : Moves w acquirePre := by
    refine moves_of_changes fun s => ?_
    unfold acquirePre
    split
    · exact changes_raise _ s
    · exact .refl s
  simp only [acquireSteps, List.forall_mem_cons]
  exact ⟨hpre, moves_of_changes (changes_denyStep hw), moves_abortIfBusy hc, moves_waitAbort hc,
    moves_of_changes (changes_setMode hm _), nofun⟩

omit hc in
theorem moves_releaseSteps (hw : w .window = true) (hm : w .mode = true) (p : Params) : ∀ m ∈ releaseSteps p, Moves w m := by
  simp only [releaseSteps, List.cons_append, List.forall_mem_cons, List.forall_mem_append]
  exact ⟨moves_of_changes (changes_check (fun s => s.mode == .indirectAccess) _), moves_mmapSteps p, moves_of_changes (changes_allowStep hw),
    moves_of_changes (changes_setMode hm _), nofun⟩

theorem moves_initSteps (hg : w .config = true) (hw : w .window = true) (hm : w .mode = true) (p : Params) :
    ∀ m ∈ initSteps p, Moves w m := by
  simp only [initSteps, List.forall_mem_append]
  exact ⟨⟨moves_initialiseSteps hg hw hm p, moves_rdidSteps hc⟩, moves_cmdSteps hc _ _⟩

theorem moves_readSteps (hb : w .buffer = true) (hw : w .window = true) (hm : w .mode = true) (p : Params) (a len q : Word) :
    ∀ m ∈ readSteps p a len q, Moves w m := by
  unfold readSteps
  split
  · exact nofun
  · simp only [List.cons_append, List.forall_mem_cons, List.forall_mem_append]
    exact ⟨moves_of_changes (changes_accessPre _ a len), ⟨moves_acquireSteps hc hw hm, moves_rdaSteps hc hb _ _ _ _ _ _⟩,
      moves_releaseSteps hw hm p⟩

theorem moves_writeSteps (hw : w .window = true) (hm : w .mode = true) (p : Params) (a len q : Word) :
    ∀ m ∈ writeSteps p a len q, Moves w m := by
  unfold writeSteps
  split
  · exact nofun
  · simp only [List.cons_append, List.forall_mem_cons, List.forall_mem_append]
    exact ⟨moves_of_changes (changes_accessPre _ a len), ⟨moves_acquireSteps hc hw hm, moves_wraSteps hc _ _ _ _ _ _⟩,
      moves_releaseSteps hw hm p⟩

end Operations

/-! ### Every instruction -/

/-- The parts an instruction may write: the operations' tables of Sys2Proof/Safety.lean, and `op_word` for RD1. -/
def writesOf (i : Instr) (part : Part) : Bool :=
  match part with
  | .mode => writesMode i
  | .window => writesWindow i
  | .config => writesConfig i
  | .opWord => match i with
    | .rd1 .. => true
    | _ => false
  | .buffer => writesBuffer i
  | .caller => isOperation i

/-- Work writes only the parts in `w`. -/
def Work.Within (w : Part → Bool) (k : Work) : Prop :=
  match k with
  | .operation ms => w .caller = true ∧ ∀ m ∈ ms, Moves w m
  | .agent m => ∀ s, Changes w s (m s)

theorem within_raise (hc : w .caller = true) (f : Fault) : (Work.operation [raise f]).Within w :=
  ⟨hc, List.forall_mem_singleton.2 (moves_of_changes (changes_raise f))⟩

theorem workOf_within (p : Params) (i : Instr) : (workOf p i).Within (writesOf i) := by
  cases i
  case configure => exact ⟨rfl, moves_configureSteps rfl p⟩
  case denyAll => exact ⟨rfl, List.forall_mem_singleton.2 (moves_of_changes (changes_denyStep rfl))⟩
  case allowMapped => exact ⟨rfl, List.forall_mem_singleton.2 (moves_of_changes (changes_allowStep rfl))⟩
  case rdid => exact ⟨rfl, moves_rdidSteps rfl⟩
  case cmd o n => exact ⟨rfl, moves_cmdSteps rfl o n⟩
  case wr1 o len q => exact ⟨rfl, moves_wr1Steps rfl o len q⟩
  case wra o n a len q => exact ⟨rfl, moves_wraSteps rfl p o n a len q⟩
  case rd1 o len => exact ⟨rfl, moves_rd1Steps rfl rfl o len⟩
  case rda o n a len q => exact ⟨rfl, moves_rdaSteps rfl rfl p o n a len q⟩
  case mmapCfg => exact ⟨rfl, moves_mmapSteps p⟩
  case abort => exact ⟨rfl, moves_abortSteps rfl⟩
  case initialise => exact ⟨rfl, moves_initialiseSteps rfl rfl rfl p⟩
  case acquire => exact ⟨rfl, moves_acquireSteps rfl rfl rfl⟩
  case release => exact ⟨rfl, moves_releaseSteps rfl rfl p⟩
  case init => exact ⟨rfl, moves_initSteps rfl rfl rfl rfl p⟩
  case read a len q => exact ⟨rfl, moves_readSteps rfl rfl rfl rfl p a len q⟩
  case write a len q => exact ⟨rfl, moves_writeSteps rfl rfl rfl p a len q⟩
  case cpuLoad | cpuStore | cpuFetch | cpuSpec => exact changes_mappedAccess _ _ _
  case tmwRdid | tmwCmd | tmwWr1 | tmwWra | tmwWra0 | tmwRd1 | tmwRda4 | tmwRda1 => exact changes_tmwRow changes_commonPre _
  case tmwMmapCfg => exact changes_tmwRow changes_mmapPre _
  case opRead | opFastRead | opQuadRead | opWrite | opQuadWrite | opEnterQuad | opExitQuad | opResetEnable | opReset
    | opSetBurst | opReadId => exact changes_deviceFrame _ _
  case rgnAttrOuter | rgnAttrMid | rgnAttrInner => exact fun s => changes_loadRgn rfl _ _ _ _ s
  case crLoad => exact changes_loadCr _
  case dcrLoad => exact changes_loadDcr rfl _
  all_goals exact within_raise rfl _

/-- The end of an operation writes no part but the mark of the unwound caller, which only an operation has. -/
theorem Changes.endOp (hc : w .caller = true) (h : Changes w s t) : Changes w s (endOp t) := by
  have hcaller (u : State) : w .caller = false → u.unwound = s.unwound := by simp [hc]
  unfold Machine.endOp
  split
  · exact { h with caller := hcaller _ }
  next hf =>
    split
    · have ha := h.trans (by simpa using hf) (kept_finishAbort t).changes
      exact { ha with caller := hcaller _ }
    · exact { h with caller := hcaller _ }

theorem changes_after {k : Work} (hk : k.Within w) (s : State) (hs : s.fault = none) : Changes w s (k.after s) := by
  cases k with
  | agent m => exact hk s
  | operation ms =>
    obtain ⟨hc, hms⟩ := hk
    have hbegin : Changes w s (beginOp s) := { Changes.refl (w := w) s with caller := by simp [hc] }
    exact ((closed_changes hc s).runMicros (fun m hm => hms m hm s) _ (by simpa [halted] using hs) hbegin).endOp hc

/-- What an instruction writes, whatever the other agents do. -/
theorem exec_changes (i : Instr) (s t : State) (h : exec i s = .next t) : Changes (writesOf i) s t := by
  obtain ⟨hs, rfl⟩ := (exec_next_iff i s t).1 h
  exact changes_after (workOf_within s.par i) s hs

/-- A presentation that is no row writes no more than the window and the configuration. -/
theorem changes_presentUnlisted (hw : w .window = true) (hg : w .config = true) (e : DecodeError) (s : State) :
    Changes w s (presentUnlisted e s) := by
  cases e with
  | reservedTmw => exact changes_raise _ s
  | unlistedTmw v =>
    refine changes_tmwRow (fun s => ?_) v s
    split
    · exact changes_mmapPre s
    · exact changes_commonPre s
  | unlistedOpcode o f => exact changes_deviceFrame o f s
  | unlistedAttr v => exact changes_loadAttr hw v s
  | unlistedCr v => exact changes_writeUnlistedCr v s
  | unlistedDcr v => exact changes_loadDcr hg v s
  | reservedRegisterBit => exact changes_raise _ s

/-- The straps and the interrupt mask are as they were after every step, and the trace is continued. -/
theorem step_changes (s t : State) (h : step s = .next t) :
    t.par = s.par ∧ t.irqEnabled = s.irqEnabled ∧ s.trace <+: t.trace := by
  obtain ⟨hs, rfl | ⟨rest, i, rfl⟩ | ⟨x, rest, e, -, rfl⟩⟩ := step_next_cases s t h
  · have hc : Changes (fun _ => true) s (wireStep s) := (kept_wireStep s).changes
    exact ⟨hc.par, hc.irq, hc.trace⟩
  · have hc := changes_after (workOf_within s.par i) { s with inputs := rest } hs
    exact ⟨hc.par, hc.irq, hc.trace⟩
  · have hc := changes_presentUnlisted (w := fun _ => true) rfl rfl e { s with inputs := rest }
    exact ⟨hc.par, hc.irq, hc.trace⟩

/-- Settles O8: every work keeps the straps and the interrupt mask, a bracket being one step. -/
theorem stepKeepsIrqEnabled : Obligations.StepKeepsIrqEnabled := by
  intro s t h
  obtain ⟨hp, hi, -⟩ := step_changes s t h
  exact ⟨hi, hp⟩

/-- Settles O9: every micro-step continues the trace. -/
theorem traceIsAppendOnly : Obligations.TraceIsAppendOnly := by
  intro s t h
  obtain ⟨-, -, es, hes⟩ := step_changes s t h
  exact ⟨es, hes.symm⟩

/-- Settles O10: each micro-step is placed among the parts its operation writes. -/
theorem stateIsWrittenOnlyByItsOperations : Obligations.StateIsWrittenOnlyByItsOperations := by
  intro i s t h
  have hc := exec_changes i s t h
  refine ⟨fun ht => ⟨hc.mode ht, hc.window ht, hc.config ht, fun hi => hc.opWord ht ?_⟩, hc.buffer⟩
  cases i with
  | rd1 o n => exact absurd rfl (hi o n)
  | _ => rfl

end Sys2Proof.Machine
end

section
/-! PROOF. The fields of a mode word (30_encoding.md R111) as `tmwPack` lays them out, and that no word the model's own operations write is
a reserved one (R132). -/

namespace Sys2Proof.Machine

section Fields

variable (fm dl : BitVec 2) (dc : BitVec 5) (abl sz al il : BitVec 2) (o : Byte)

/-- A bit of a mode word: the fields lie one behind the other, the opcode first. -/
theorem getLsbD_tmwPack (i : Nat) :
    (tmwPack fm dl dc abl sz al il o).getLsbD i
      = if i < 8 then o.getLsbD i else if i - 8 < 2 then il.getLsbD (i - 8) else if i - 8 - 2 < 2 then al.getLsbD (i - 8 - 2)
        else if i - 8 - 2 - 2 < 2 then sz.getLsbD (i - 8 - 2 - 2) else if i - 8 - 2 - 2 - 2 < 2 then abl.getLsbD (i - 8 - 2 - 2 - 2)
        else if i - 8 - 2 - 2 - 2 - 2 < 2 then false
        else if i - 8 - 2 - 2 - 2 - 2 - 2 < 5 then dc.getLsbD (i - 8 - 2 - 2 - 2 - 2 - 2)
        else if i - 8 - 2 - 2 - 2 - 2 - 2 - 5 < 1 then false
        else if i - 8 - 2 - 2 - 2 - 2 - 2 - 5 - 1 < 2 then dl.getLsbD (i - 8 - 2 - 2 - 2 - 2 - 2 - 5 - 1)
        else if i - 8 - 2 - 2 - 2 - 2 - 2 - 5 - 1 - 2 < 2 then fm.getLsbD (i - 8 - 2 - 2 - 2 - 2 - 2 - 5 - 1 - 2) else false := by
  simp only [tmwPack, BitVec.getLsbD_append, BitVec.ofNat_eq_ofNat, BitVec.getLsbD_zero]

@[simp] theorem tmwPack_opcode : (tmwPack fm dl dc abl sz al il o).extractLsb' 0 8 = o := by
  apply BitVec.eq_of_getLsbD_eq
  intro i hi
  simp [getLsbD_tmwPack, hi]

/-- A field of two bits, from its bits. -/
theorem extractLsb'_two (v : Word) (k : Nat) (c : BitVec 2) (h0 : v.getLsbD k = c.getLsbD 0)
    (h1 : v.getLsbD (k + 1) = c.getLsbD 1) : v.extractLsb' k 2 = c := by
  apply BitVec.eq_of_getLsbD_eq
  intro i hi
  rw [BitVec.getLsbD_extractLsb']
  interval_cases i
  · simpa using h0
  · simpa using h1

@[simp] theorem tmwPack_il : (tmwPack fm dl dc abl sz al il o).extractLsb' 8 2 = il :=
  extractLsb'_two _ _ _ (getLsbD_tmwPack ..) (getLsbD_tmwPack ..)

@[simp] theorem tmwPack_al : (tmwPack fm dl dc abl sz al il o).extractLsb' 10 2 = al :=
  extractLsb'_two _ _ _ (getLsbD_tmwPack ..) (getLsbD_tmwPack ..)

theorem tmwPack_size : (tmwPack fm dl dc abl sz al il o).getLsbD 12 = sz.getLsbD 0 :=
  getLsbD_tmwPack ..

theorem tmwPack_sized : (tmwPack fm dl dc abl sz al il o).getLsbD 13 = sz.getLsbD 1 :=
  getLsbD_tmwPack ..

@[simp] theorem tmwPack_abl : (tmwPack fm dl dc abl sz al il o).extractLsb' 14 2 = abl :=
  extractLsb'_two _ _ _ (getLsbD_tmwPack ..) (getLsbD_tmwPack ..)

@[simp] theorem tmwPack_abs : (tmwPack fm dl dc abl sz al il o).extractLsb' 16 2 = 0 :=
  extractLsb'_two _ _ _ (getLsbD_tmwPack ..) (getLsbD_tmwPack ..)

@[simp] theorem tmwPack_dummy : (tmwPack fm dl dc abl sz al il o).extractLsb' 18 5 = dc := by
  apply BitVec.eq_of_getLsbD_eq
  intro i hi
  rw [BitVec.getLsbD_extractLsb', getLsbD_tmwPack]
  interval_cases i <;> simp

theorem tmwPack_reserved : (tmwPack fm dl dc abl sz al il o).getLsbD 23 = false :=
  getLsbD_tmwPack ..

@[simp] theorem tmwPack_dl : (tmwPack fm dl dc abl sz al il o).extractLsb' 24 2 = dl :=
  extractLsb'_two _ _ _ (getLsbD_tmwPack ..) (getLsbD_tmwPack ..)

@[simp] theorem tmwPack_fm : (tmwPack fm dl dc abl sz al il o).extractLsb' 26 2 = fm :=
  extractLsb'_two _ _ _ (getLsbD_tmwPack ..) (getLsbD_tmwPack ..)

@[simp] theorem tmwPack_high : (tmwPack fm dl dc abl sz al il o).extractLsb' 28 4 = 0 := by
  apply BitVec.eq_of_getLsbD_eq
  intro i hi
  rw [BitVec.getLsbD_extractLsb', getLsbD_tmwPack]
  interval_cases i <;> simp

@[simp] theorem ccrFm_tmwPack : ccrFm (tmwPack fm dl dc abl sz al il o) = fm := tmwPack_fm ..
@[simp] theorem ccrAl_tmwPack : ccrAl (tmwPack fm dl dc abl sz al il o) = al := tmwPack_al ..
@[simp] theorem ccrDl_tmwPack : ccrDl (tmwPack fm dl dc abl sz al il o) = dl := tmwPack_dl ..

/-- Which words of this layout are reserved (30_encoding.md R132). -/
theorem reservedTmw_tmwPack :
    reservedTmw (tmwPack fm dl dc abl sz al il o)
      = (il == 0b10 || al == 0b10 || abl == 0b10 || dl == 0b10 || il == 0b00 || (!sz.getLsbD 1 && al != 0b00) || fm == 0b10) := by
  simp only [reservedTmw, tmwPack_reserved, tmwPack_high, tmwPack_il, tmwPack_al, tmwPack_abl, tmwPack_dl, tmwPack_sized,
    tmwPack_fm, tmwPack_abs]
  simp

end Fields

/-! ### Codes -/

@[simp] theorem linesOf_lineCode (n : Lines) : linesOf (lineCode n) = some n := by
  cases n <;> rfl

@[simp] theorem asizeOfBit_asizeCode (z : ASize) : asizeOfBit ((asizeCode z).getLsbD 0) = z := by
  cases z <;> rfl

@[simp] theorem asizeCode_sized (z : ASize) : (asizeCode z).getLsbD 1 = true := by
  cases z <;> rfl

theorem lineCode_legal (n : Lines) : (lineCode n == 0b10) = false ∧ (lineCode n == 0b00) = false := by
  cases n <;> decide

theorem lineCodeOpt_legal (n : Option Lines) : (lineCodeOpt n == 0b10) = false := by
  rcases n with _ | n
  · decide
  · exact (lineCode_legal n).1

/-! ### The words the operations write -/

/-- A word with an Instr phase, an address size where there is an Addr phase, and no reserved code. -/
theorem reservedTmw_tmwPack_eq_false {fm dl abl sz al il : BitVec 2} (dc : BitVec 5) (o : Byte)
    (hil : (il == 0b10) = false ∧ (il == 0b00) = false) (hal : (al == 0b10) = false) (habl : (abl == 0b10) = false)
    (hdl : (dl == 0b10) = false) (hsz : sz.getLsbD 1 = true ∨ al = 0b00) (hfm : (fm == 0b10) = false) :
    reservedTmw (tmwPack fm dl dc abl sz al il o) = false := by
  rw [reservedTmw_tmwPack]
  rcases hsz with hsz | hsz <;> simp_all

theorem reservedTmw_rdid : reservedTmw tmwRdidWord = false := by decide

theorem reservedTmw_cmd (o : Byte) (n : Lines) : reservedTmw (tmwOfCmd o n) = false :=
  reservedTmw_tmwPack_eq_false _ o (lineCode_legal n) rfl rfl rfl (.inr rfl) rfl

theorem reservedTmw_wr1 (o : Byte) : reservedTmw (tmwOfWr1 o) = false :=
  reservedTmw_tmwPack_eq_false _ o (lineCode_legal .one) rfl rfl rfl (.inr rfl) rfl

theorem reservedTmw_wraWord (o : Byte) (il al : Lines) (sz : ASize) (dl : BitVec 2) (hdl : (dl == 0b10) = false) :
    reservedTmw (tmwPack 0b00 dl 0 0b00 (asizeCode sz) (lineCode al) (lineCode il) o) = false :=
  reservedTmw_tmwPack_eq_false _ o (lineCode_legal il) (lineCode_legal al).1 rfl hdl (.inl (asizeCode_sized sz)) rfl

theorem reservedTmw_wra (p : Params) (o : Byte) (n : Lines) (a len : Word) : reservedTmw (tmwOfWra p o n a len) = false := by
  refine reservedTmw_wraWord o _ n _ _ ?_
  split
  · rfl
  · exact (lineCode_legal n).1

theorem reservedTmw_rd1 (o : Byte) : reservedTmw (tmwOfRd1 o) = false :=
  reservedTmw_tmwPack_eq_false _ o (lineCode_legal .one) rfl rfl rfl (.inr rfl) rfl

/-- The words of a quad read, indirect or memory-mapped. -/
theorem reservedTmw_quadRead (fm : BitVec 2) (hfm : (fm == 0b10) = false) (dc : BitVec 5) (abl : BitVec 2)
    (habl : (abl == 0b10) = false) (sz : ASize) (il : Lines) (o : Byte) :
    reservedTmw (tmwPack fm 0b11 dc abl (asizeCode sz) 0b11 (lineCode il) o) = false :=
  reservedTmw_tmwPack_eq_false dc o (lineCode_legal il) rfl habl rfl (.inl (asizeCode_sized sz)) hfm

theorem altCode_legal (p : Params) : (altCode p == 0b10) = false := by
  unfold altCode
  split <;> rfl

theorem reservedTmw_rda1 (o : Byte) (sz : ASize) : reservedTmw (tmwPack 0b01 0b01 0 0b00 (asizeCode sz) 0b01 0b01 o) = false :=
  reservedTmw_tmwPack_eq_false _ o (lineCode_legal .one) rfl rfl rfl (.inl (asizeCode_sized sz)) rfl

theorem reservedTmw_rda (p : Params) (o : Byte) (n : Lines) (a : Word) : reservedTmw (tmwOfRda p o n a) = false := by
  cases n with
  | one => exact reservedTmw_rda1 o _
  | four => exact reservedTmw_quadRead _ rfl _ _ (altCode_legal p) _ _ o

theorem reservedTmw_mmap (p : Params) : reservedTmw (tmwOfMmap p) = false :=
  reservedTmw_quadRead _ rfl _ _ (altCode_legal p) _ _ _

end Sys2Proof.Machine
end

section
/-! PROOF. The invariant in the middle of an operation, and that every operation on the wire, the flags, the registers and the device keeps
it. It is `Inv` without the clause on a pending abort, which an operation may leave open until it ends. -/

namespace Sys2Proof.Machine

/-- The wire, the flags, the FIFO and the pins agree, the reserved bits read 0, the memories are in their form (10_state.md R39 to R42, R30,
R31, 30_encoding.md R132). -/
structure Good (s : State) : Prop where
  onWire : s.ph ≠ .idle → s.busy = .one ∨ s.busy = .drawn ∧ ccrMapped s.ccr = true
  fifo : s.busy ≠ .one → s.fifo = []
  nCS : s.nCS = (s.ph == .idle)
  clk : s.clk = false
  io : s.ph = .idle → s.io = .undriven
  level : s.fifo.length ≤ s.par.fifoDepth
  cr : s.cr &&& 0x00FFE024 = 0
  dcr : s.dcr &&& 0xFFE0F8FD = 0
  ccr : s.ccr = 0 ∨ reservedTmw s.ccr = false
  mem : MemInv s

variable {s t : State}

theorem MemInv.spoiled (h : MemInv s) (e : Nat) : MemInv { s with psram := [], psramEpoch := e } := by
  obtain ⟨-, hb, -⟩ := h
  exact ⟨rfl, hb, nofun⟩

/-! ### The device -/

/-- What the device may do to its array leaves it in its form. -/
theorem Good.device (h : Good s) {ps : Memory} (hp : ps = s.psram ∨ ps = []) (ep : Nat) (m : DevMode) (b : BitVec 16) (r : Bool)
    (d : Nat) : Good { s with psram := ps, psramEpoch := ep, devMode := m, devBurst := b, devResetArmed := r, draws := d } := by
  rcases hp with rfl | rfl
  · exact { h with }
  · exact { h with mem := h.mem.spoiled ep }

theorem Good.spoilPsram (h : Good s) : Good (spoilPsram s) := { h with mem := h.mem.spoiled _ }

/-- The device's latch touches the device only. -/
theorem deviceLatch_eq (ans : DevAnswer) (s : State) :
    ∃ (ps : Memory) (ep : Nat) (m : DevMode),
      deviceLatch ans s = { s with psram := ps, psramEpoch := ep, devMode := m } ∧ (ps = s.psram ∨ ps = []) := by
  rcases deviceLatch_cases ans s with ⟨-, he⟩ | ⟨-, he⟩
  · exact ⟨_, _, _, he, .inr rfl⟩
  · exact ⟨_, _, _, he, .inl rfl⟩

theorem Good.deviceLatch (h : Good s) (ans : DevAnswer) : Good (deviceLatch ans s) := by
  obtain ⟨ps, ep, m, he, hp⟩ := deviceLatch_eq ans s
  exact he ▸ h.device hp ep m s.devBurst s.devResetArmed s.draws

theorem Good.deviceEnd (h : Good s) (ans : DevAnswer) (bytes : List Byte) : Good (deviceEnd ans bytes s) := by
  obtain ⟨ps, ep, m, b, r, d, he, hp⟩ := deviceEnd_eq ans bytes s
  exact he ▸ h.device hp ep m b r d

/-- What is listed after a store was listed before, or is the byte stored. -/
theorem Memory.mem_write {m : Memory} {a : Nat} {b : Byte} {c : Host.Cell} (h : c ∈ m.write a b) : c = (a, b) ∨ c ∈ m := by
  induction m with
  | nil => exact .inl (by simpa [Memory.write] using h)
  | cons d t ih =>
    simp only [Memory.write] at h
    split at h
    · simpa using h
    split at h
    · rcases List.mem_cons.1 h with h | h
      · exact .inl h
      · exact .inr (List.mem_cons_of_mem _ h)
    · rcases List.mem_cons.1 h with rfl | h
      · exact .inr List.mem_cons_self
      · exact (ih h).imp_right (List.mem_cons_of_mem _)

theorem MemInv.stored (h : MemInv s) {a : Nat} (b : Byte) (ha : a < capBytes s.par) :
    MemInv { s with psram := s.psram.write a b } := by
  obtain ⟨hp, hb, hc⟩ := h
  refine ⟨Memory.wf_write _ a b hp, hb, fun c hm => ?_⟩
  rcases Memory.mem_write hm with rfl | hm
  · exact ha
  · exact hc c hm

theorem Good.devWriteByte (h : Good s) (ans : DevAnswer) (i : Nat) (b : Byte) : Good (devWriteByte ans i b s) := by
  rcases devWriteByte_cases ans i b s with ⟨a, -, ha, he⟩ | ⟨a, -, -, he⟩ | he <;> rw [he]
  · exact { h with mem := h.mem.stored b ha }
  · exact h.spoilPsram
  · exact h

theorem Good.devWriteBytes (h : Good s) (ans : DevAnswer) (i : Nat) (bs : List Byte) : Good (devWriteBytes ans i bs s) := by
  induction bs generalizing i s with
  | nil => exact h
  | cons b rest ih => exact ih (h.devWriteByte ans i b) (i + 1)

theorem Good.deviceData (h : Good s) (ans : DevAnswer) (d : FrameData) : Good (deviceData ans d s).2 := by
  cases d with
  | absent => exact h
  | read _ last => exact { h with }
  | write _ bytes => exact h.devWriteBytes ans 0 bytes

/-! ### The trace, the outcomes, the flags and the FIFO -/

theorem Good.emit (h : Good s) (e : Event) : Good (emit e s) := { h with }

theorem Good.raise (h : Good s) (f : Fault) : Good (raise f s) := { h with }

theorem Good.raiseHang (h : Good s) (w : Wait) : Good (raiseHang w s) := { h.spoilPsram with }

theorem Good.readBusy (h : Good s) : Good (readBusy s).2 := by
  rw [readBusy_eq]
  exact { h with }

theorem Good.refreshBusy (h : Good s) : Good (refreshBusy s) := by
  rw [refreshBusy_eq]
  split
  next hc =>
    obtain ⟨-, hp, hf⟩ := hc
    exact { h with onWire := fun hn => absurd hp hn, fifo := fun _ => hf }
  · exact { h with }

/-- A read of `DR` takes bytes out of the FIFO. -/
theorem Good.readDr (h : Good s) {k : Nat} (hk : k ≤ s.fifo.length) : Good (readDr k s).2 := by
  rcases readDr_cases k s with ⟨hlt, -⟩ | ⟨-, he⟩
  · omega
  rw [he]
  have hd : Good { s with fifo := s.fifo.drop k } :=
    { h with
      fifo := fun hb => by simp [h.fifo hb]
      level := by simpa using Nat.le_trans (Nat.sub_le _ k) h.level }
  exact hd.refreshBusy

/-- A write of `DR` while a frame is under way: the only time at which the FIFO may hold something. -/
theorem Good.writeDr (h : Good s) (hb : s.busy = .one) (k : Nat) (v : Word) : Good (writeDr k v s) := by
  rcases writeDr_cases k v s with ⟨-, he⟩ | ⟨hk, he⟩ <;> rw [he]
  · exact h.raise _
  · have hlevel := h.level
    exact
      { h with
        fifo := fun hn => absurd hb hn
        level := by simp only [List.length_append, List.length_take]; omega }

/-! ### The wire engine -/

theorem Good.startFrame (h : Good s) : Good (startFrame s) :=
  { h with onWire := fun _ => .inl rfl, fifo := fun hn => absurd rfl hn, nCS := rfl, io := nofun }

theorem crClearAbort_reserved {cr : Word} (h : cr &&& 0x00FFE024 = 0) : crClearAbort cr &&& 0x00FFE024 = 0 := by
  rw [crClearAbort, BitVec.and_assoc, BitVec.and_comm 0xFFFFFFFD, ← BitVec.and_assoc, h]
  rfl

theorem crSetAbort_reserved {cr : Word} (h : cr &&& 0x00FFE024 = 0) : crSetAbort cr &&& 0x00FFE024 = 0 := by
  rw [crSetAbort, BitVec.and_comm, BitVec.and_or_distrib_left, BitVec.and_comm _ cr, h]
  rfl

/-- The wire falls idle, the flags and the FIFO with it. -/
theorem Good.idled (h : Good s) (w : List Byte) (tcf : Bool) :
    Good { s with ph := .idle, wireBytes := w, nCS := true, clk := false, io := .undriven, fifo := [], tcf := tcf, busy := .zero } :=
  { h with
    onWire := fun hn => absurd rfl hn, fifo := fun _ => rfl, nCS := rfl, clk := rfl, io := fun _ => rfl, level := Nat.zero_le _ }

theorem Good.emitCutOff (h : Good s) : Good (emitCutOff s) := by
  unfold Machine.emitCutOff
  split
  · exact h
  · exact h.emit _

theorem Good.requestAbort (h : Good s) : Good (requestAbort s) := { h with cr := crSetAbort_reserved h.cr }

theorem Good.completeAbort (h : Good s) : Good (completeAbort s) :=
  { h.emitCutOff.idled (Machine.emitCutOff s).wireBytes false with
    cr := crClearAbort_reserved h.cr }

theorem Good.finishAbort (h : Good s) : Good (finishAbort s) := by
  unfold Machine.finishAbort
  split
  · exact h.completeAbort
  · exact h

theorem Good.peripheralReset (h : Good s) : Good (peripheralReset s) :=
  { ((h.emit .periphReset).emitCutOff).idled [] false with
    onWire := fun hn => absurd rfl hn, cr := by simp [Machine.peripheralReset], dcr := by simp [Machine.peripheralReset], ccr := .inl rfl }

/-- On a wire that is not idle another phase that is not idle, and any value on the lines. -/
theorem Good.setPhase (h : Good s) (hs : s.ph ≠ .idle) {p : Phase} (hp : p ≠ .idle) (l : LineClock) (tcf : Bool) :
    Good { s with ph := p, io := l, tcf := tcf } :=
  { h with
    onWire := fun _ => h.onWire hs
    nCS := h.nCS.trans ((beq_eq_false_iff_ne.2 hs).trans (beq_eq_false_iff_ne.2 hp).symm)
    io := fun hi => absurd hi hp }

theorem Good.enterPhase (h : Good s) (hs : s.ph ≠ .idle) {p : Phase} (hp : p ≠ .idle) : Good (enterPhase p s) := by
  rcases enterPhase_cases p s with ⟨-, he⟩ | ⟨-, he⟩ <;> rw [he]
  · exact (h.setPhase hs (p := .done) nofun s.io true).deviceEnd _ _
  · exact h.setPhase hs hp s.io s.tcf

theorem nextPhase_ne_idle (f : FrameShape) {p : Phase} (hi : p ≠ .idle) (hd : p ≠ .done) : nextPhase f p ≠ .idle := by
  cases p with
  | idle => exact absurd rfl hi
  | done => exact absurd rfl hd
  | _ =>
    simp only [nextPhase]
    repeat' split
    all_goals simp

theorem deviceLatch_ph (ans : DevAnswer) (s : State) : (deviceLatch ans s).ph = s.ph := by
  obtain ⟨_, _, _, he, -⟩ := deviceLatch_eq ans s
  rw [he]

theorem devWriteByte_ph (ans : DevAnswer) (i : Nat) (b : Byte) (s : State) : (devWriteByte ans i b s).ph = s.ph := by
  rcases devWriteByte_cases ans i b s with ⟨a, -, -, he⟩ | ⟨a, -, -, he⟩ | he <;> simp [he]

/-- A byte leaves the FIFO for the wire. -/
theorem Good.byteSent (h : Good s) (hs : s.ph ≠ .idle) (d : DataShape) {b : Byte} {rest : List Byte} (hf : s.fifo = b :: rest) :
    Good (byteSent d b rest s) := by
  have hlevel : rest.length ≤ s.par.fifoDepth := by
    have hl := h.level
    rw [hf, List.length_cons] at hl
    omega
  have hmoved : Good { s with
      fifo := rest, wireBytes := s.wireBytes ++ [b], io := (byteClocks d.lines .write b).getLastD s.io } :=
    { h with
      fifo := fun hb => by simp [h.fifo hb] at hf
      io := fun hi => absurd hi hs
      level := hlevel }
  exact hmoved.devWriteByte _ _ _

/-- A byte goes into the FIFO while an indirect frame is on the wire. -/
theorem Good.byteReceived (h : Good s) (hs : s.ph ≠ .idle) (hm : ccrMapped s.ccr = false) (d : DataShape) (b : Byte)
    (hf : s.fifo.length < s.par.fifoDepth) : Good (byteReceived d b s) := by
  have hb : s.busy = .one := by simpa [hm] using h.onWire hs
  exact
    { h with
      fifo := fun hn => absurd hb hn
      io := fun hi => absurd hi hs
      level := by simp [Machine.byteReceived]; omega }

theorem Good.wireData (h : Good s) (hs : s.ph ≠ .idle) (hm : ccrMapped s.ccr = false) (d : DataShape) : Good (wireData d s) := by
  rcases wireData_cases d s with he | ⟨b, rest, -, hf, he⟩ | ⟨b, -, hf, he⟩ <;> rw [he]
  · exact h
  · have hg := h.byteSent hs d hf
    split
    · exact hg
    · exact hg.enterPhase (by simpa [Machine.byteSent, devWriteByte_ph] using hs) nofun
  · have hg := h.byteReceived hs hm d b hf
    split
    · exact hg
    · exact hg.enterPhase hs nofun

/-- The frame leaves the wire. -/
theorem Good.endFrame (h : Good s) : Good (endFrame s) := by
  have hg : Good { Machine.emit (Event.frame (currentFrame s false)) s with ph := .idle, nCS := true, clk := false, io := .undriven } :=
    { h with onWire := fun hn => absurd rfl hn, nCS := rfl, clk := rfl, io := fun _ => rfl }
  exact hg.refreshBusy

theorem Good.wireMapped (h : Good s) (hs : s.ph ≠ .idle) (d : DataShape) : Good (wireMapped d s) := by
  have hg (w : List Byte) (n : Nat) (l : LineClock) : Good { s with wireBytes := w, draws := n, io := l } :=
    { h with io := fun hi => absurd hi hs }
  simp only [Machine.wireMapped]
  split
  · exact hg _ _ _
  · exact (hg _ _ _).endFrame

theorem Good.wireStep (h : Good s) : Good (wireStep s) := by
  have hio (hs : s.ph ≠ .idle) : Good { s with io := phaseIo s } := h.setPhase hs hs (phaseIo s) s.tcf
  have hsend {p : Phase} (hp : s.ph = p) (hi : p ≠ .idle) (hd : p ≠ .done) :
      Good (Machine.enterPhase (nextPhase s.shape p) { s with io := phaseIo s }) :=
    (hio (hp ▸ hi)).enterPhase (hp ▸ hi) (nextPhase_ne_idle _ hi hd)
  unfold Machine.wireStep
  split
  · exact h.completeAbort
  split
  · exact h
  split
  next => exact h
  next hp =>
    have hs : s.ph ≠ .idle := by simp [hp]
    refine ((hio hs).deviceLatch _).enterPhase ?_ (nextPhase_ne_idle _ nofun nofun)
    rw [deviceLatch_ph]
    exact hs
  next hp => exact hsend hp nofun nofun
  next hp => exact hsend hp nofun nofun
  next hp => exact hsend hp nofun nofun
  next hp =>
    have hs : s.ph ≠ .idle := by simp [hp]
    split
    · split
      · exact h.wireMapped hs _
      next hm => exact h.wireData hs (by simpa using hm) _
    · exact h.enterPhase hs nofun
  next => exact h.endFrame

/-! ### The CPU's accesses, and frames handed to the device -/

theorem Good.finishMapped (h : Good s) : Good (finishMapped s) := by
  unfold Machine.finishMapped
  split
  · exact h
  · have hg (w : List Byte) (n : Nat) : Good { s with wireBytes := w, draws := n } := { h with }
    exact (hg _ _).endFrame

/-- A served access leaves its frame whole, or on the wire with `SR.BUSY` a draw under the memory-mapped word. -/
theorem Good.serveMapped (h : Good s) (hm : ccrMapped s.ccr = true) (kind : CpuKind) (a : Word) (k : CpuSize) :
    Good (serveMapped kind a k s) := by
  obtain ⟨ans, bytes, d, whole, io, rd, es, served, rfl, he⟩ := serveMapped_cases kind a k s
  obtain ⟨ps, ep, m, hl, hp⟩ := deviceLatch_eq ans (beginMapped a (sizeBytes k) s)
  have hserved : Good { Machine.deviceLatch ans (beginMapped a (sizeBytes k) s) with
      wireBytes := bytes, draws := d, clk := false, nCS := whole, ph := if whole then .idle else .data
      io := if whole then .undriven else io, cpuRdata := rd, trace := s.trace ++ es } := by
    rw [hl]
    exact
      { h.device hp ep m s.devBurst s.devResetArmed d with
        onWire := fun _ => .inr ⟨rfl, hm⟩
        fifo := fun _ => rfl
        nCS := by cases whole <;> rfl
        clk := rfl
        io := by cases whole <;> simp
        level := Nat.zero_le _ }
  rcases he with he | he <;> rw [he]
  · exact hserved
  · exact hserved.deviceEnd _ _

/-- A frame handed to the device: refused, one that never ends, or whole. -/
theorem Good.deviceFrame (h : Good s) (o : Byte) (f : FrameArgs) : Good (deviceFrame o f s) := by
  simp only [Machine.deviceFrame]
  split
  · exact h.raise _
  split
  · exact h.startFrame.raiseHang _
  · exact (((h.deviceData _ f.data).deviceLatch _).deviceEnd _ _).emit _

/-! ### The memories alone, which `Wedged` keeps -/

/-- What holds within an operation: after `Wedged` only the memories are spoken of. -/
structure Mid (s : State) : Prop where
  block : isWedged s = false → Good s
  mem : MemInv s

theorem Good.mid (h : Good s) : Mid s := ⟨fun _ => h, h.mem⟩

theorem Mid.good (h : Mid s) (hs : halted s = false) : Good s := h.block (isWedged_of_fault_none (fault_of_not_halted hs))

theorem MemInv.raiseWedged (h : MemInv s) (kind : CpuKind) (a : Word) (k : CpuSize) : MemInv (raiseWedged kind a k s) := by
  obtain ⟨-, hb, -⟩ := h
  exact ⟨rfl, hb, nofun⟩

/-- An access under another word in `CCR` than the memory-mapped one moves nothing: it is recorded, and may end in an outcome. -/
theorem mappedAccess_unmapped (kind : CpuKind) (a : Word) (k : CpuSize) (hm : ccrMapped s.ccr = false) :
    (∃ v, mappedAccess kind a k s = emit (.cpuAccess kind a k v) s)
      ∨ mappedAccess kind a k s = raise (.windowDenied kind a k) (emit (.cpuAccess kind a k .denied) s)
      ∨ mappedAccess kind a k s = raiseWedged kind a k (emit (.cpuAccess kind a k .wedged) s) := by
  simp only [mappedAccess, hm, Bool.not_false, Bool.or_true, if_true]
  repeat' split
  · exact .inl ⟨_, rfl⟩
  · exact .inl ⟨_, rfl⟩
  · exact .inr (.inl rfl)
  · exact .inr (.inr rfl)

theorem mid_mappedAccess (h : Good s) (kind : CpuKind) (a : Word) (k : CpuSize) : Mid (mappedAccess kind a k s) := by
  have hwedged (e : Event) : Mid (raiseWedged kind a k (emit e s)) :=
    ⟨nofun, MemInv.raiseWedged (h.emit e).mem kind a k⟩
  cases hm : ccrMapped s.ccr with
  | false =>
    rcases mappedAccess_unmapped kind a k hm with ⟨v, he⟩ | he | he <;> rw [he]
    · exact (h.emit _).mid
    · exact ((h.emit _).raise _).mid
    · exact hwedged _
  | true =>
    rcases mappedAccess_cases kind a k s with he | he | he | he | he | he | he <;> rw [he]
    · exact (h.emit _).mid
    · exact (h.emit _).mid
    · exact ((h.emit _).raise _).mid
    · exact hwedged _
    · exact ((h.emit _).raise _).mid
    · have hstart : Good (startFrame (beginMapped a (sizeBytes k) (emit (.cpuAccess kind a k .mapped) s))) :=
        { h with
          onWire := fun _ => .inl rfl, fifo := fun _ => rfl, nCS := rfl, io := nofun, level := Nat.zero_le _ }
      exact (hstart.raiseHang _).mid
    · have hf := h.finishMapped.emit (.cpuAccess kind a k .mapped)
      exact (hf.serveMapped (by simpa [(kept_finishMapped s).ccr] using hm) kind a k).mid

end Sys2Proof.Machine
end

section
/-! PROOF. O7. Within an operation the invariant is `Mid`, carried together with what the operation knows of its own frame: that no abort is
pending, and for the two primitives that write the FIFO, that their frame still waits for the bytes they are about to push, so that
`SR.BUSY` is 1 whenever a byte is pushed. -/

namespace Sys2Proof.Machine

variable {s t : State}

/-! ### What an operation knows between its micro-steps -/

/-- The invariant within an operation, and `P` while the operation is not halted. -/
structure Holds (P : State → Prop) (s : State) : Prop where
  mid : Mid s
  known : halted s = false → P s

/-- No abort is requested. -/
def NoAbort (s : State) : Prop := crAbort s.cr = false

theorem Holds.good {P : State → Prop} (h : Holds P s) (hs : halted s = false) : Good s := h.mid.good hs

theorem Good.holds {P : State → Prop} (h : Good s) (hp : P s) : Holds P s := ⟨h.mid, fun _ => hp⟩

/-- A halted operation knows nothing. -/
theorem Holds.of_halted {P Q : State → Prop} (h : Holds P s) (hs : halted s = true) : Holds Q s :=
  ⟨h.mid, fun hn => absurd hs (by simp [hn])⟩

theorem Good.holds_raise {P : State → Prop} (h : Good s) (f : Fault) : Holds P (Machine.raise f s) :=
  ⟨(h.raise f).mid, fun hn => absurd hn (by simp [halted])⟩

/-- A CPU access that does not end in an outcome leaves what the wire engine leaves. -/
theorem kept_mappedAccess {kind : CpuKind} {a : Word} {k : CpuSize} (h : halted (mappedAccess kind a k s) = false) :
    Kept s (mappedAccess kind a k s) := by
  have hf := fault_of_not_halted h
  rcases mappedAccess_cases kind a k s with he | he | he | he | he | he | he <;> rw [he] at hf ⊢
  · exact kept_emit _ s
  · exact kept_emit _ s
  · exact absurd hf nofun
  · exact absurd hf nofun
  · exact absurd hf nofun
  · exact absurd hf nofun
  · exact (kept_finishMapped s).trans ((kept_emit _ _).trans (kept_serveMapped _ _ _ _))

/-- What an operation knows is safe from the other agents when the wire engine, an access without an outcome, and the schedule keep it. -/
theorem closed_holds {P : State → Prop} (wire : ∀ s, Good s → P s → P (wireStep s))
    (access : ∀ kind a k s, P s → halted (mappedAccess kind a k s) = false → P (mappedAccess kind a k s))
    (sched : ∀ rest s, P s → P { s with sched := rest }) : Closed (Holds P) where
  wire s hh hs := (hs.good hh).wireStep.holds (wire s (hs.good hh) (hs.known hh))
  access kind a k s hh hs := ⟨mid_mappedAccess (hs.good hh) kind a k, access kind a k s (hs.known hh)⟩
  reentrant _ hh hs := (hs.good hh).holds_raise _
  unwind s hh hs := ⟨Good.mid { hs.good hh with }, fun hn => absurd hn (by simp [halted])⟩
  sched rest s hh hs := Good.holds { hs.good hh with } (sched rest s (hs.known hh))
  hang w s hh hs := ⟨((hs.good hh).raiseHang w).mid, nofun⟩

theorem closed_true : Closed (Holds fun _ => True) := closed_holds (fun _ _ h => h) (fun _ _ _ _ h _ => h) (fun _ _ h => h)

theorem closed_noAbort : Closed (Holds NoAbort) :=
  closed_holds (fun s _ h => (kept_wireStep s).abort h) (fun _ _ _ _ h hn => (kept_mappedAccess hn).abort h) (fun _ _ h => h)

/-! ### Micro-steps that keep the invariant and request no abort -/

/-- The micro-step keeps the invariant of the block, and requests no abort. -/
def Calm (m : Micro) : Prop := ∀ s, Good s → Good (m s) ∧ (NoAbort s → NoAbort (m s))

theorem Calm.leads {m : Micro} (h : Calm m) : Leads (Holds NoAbort) (Holds NoAbort) m := by
  intro s hh hs
  obtain ⟨hg, ha⟩ := h s (hs.good hh)
  exact hg.holds (ha (hs.known hh))

theorem calm_raise (f : Fault) : Calm (raise f) := fun _ h => ⟨h.raise f, id⟩

/-- A check passes, or raises an outcome. -/
theorem calm_check (c : State → Bool) (f : Fault) : Calm fun s => if c s then s else raise f s := by
  intro s h
  dsimp only
  split
  · exact ⟨h, id⟩
  · exact calm_raise f s h

theorem calm_acquirePre : Calm acquirePre := by
  intro s h
  unfold acquirePre
  split
  · exact calm_raise _ s h
  · exact ⟨h, id⟩

theorem calm_accessPre (r : MisuseReason) (a len : Word) : Calm (accessPre r a len) := by
  intro s h
  unfold accessPre
  repeat' split
  · exact calm_raise _ s h
  · exact calm_raise _ s h
  · exact ⟨h, id⟩

theorem calm_commonPre : Calm commonPre := by
  intro s h
  have hr : NoAbort s → NoAbort (readBusy s).2 := (kept_readBusy s).abort
  simp only [commonPre]
  repeat' split
  · exact calm_raise _ s h
  · exact calm_raise _ s h
  · exact calm_raise _ s h
  · exact ⟨h.readBusy.raise _, hr⟩
  · exact ⟨h.readBusy, hr⟩

theorem calm_mmapPre : Calm mmapPre := by
  intro s h
  have hr : NoAbort s → NoAbort (readBusy s).2 := (kept_readBusy s).abort
  simp only [mmapPre]
  repeat' split
  · exact calm_raise _ s h
  · exact ⟨h.readBusy.raise _, hr⟩
  · exact ⟨h.readBusy.raise _, hr⟩
  · exact ⟨h.readBusy.raise _, hr⟩
  · exact ⟨h.readBusy, hr⟩

theorem calm_clearTcf : Calm clearTcf := fun _ h => ⟨{ h with }, id⟩

theorem calm_writeDlr (v : Word) : Calm (writeDlr v) := fun _ h => ⟨{ h with }, id⟩

theorem calm_writeAlt (on : Bool) : Calm (writeAlt on) := by
  intro s h
  cases on
  · exact ⟨h, id⟩
  · exact ⟨{ h with }, id⟩

/-- While `SR.BUSY` need not read 1 the wire is idle and the FIFO empty, so the bit may be taken for 0. -/
theorem Good.settleBusy (h : Good s) (hb : busyHeld s = false) : s.ph = .idle ∧ s.fifo = [] ∧ Good { s with busy := .zero } := by
  have hone : s.busy ≠ .one := by
    intro he
    simp [busyHeld, he] at hb
  have hidle : s.ph = .idle := by
    by_contra hn
    obtain he | ⟨he, -⟩ := h.onWire hn
    · exact hone he
    · simp [busyHeld, he, hn] at hb
  have hfifo := h.fifo hone
  exact ⟨hidle, hfifo, { h with onWire := fun hn => absurd hidle hn, fifo := fun _ => hfifo }⟩

/-- A word in `CCR` while `SR.BUSY` need not read 1. -/
theorem Good.loadCcr (h : Good s) (hb : busyHeld s = false) {v : Word} (hv : reservedTmw v = false) :
    Good { s with ccr := v, busy := .zero } := by
  obtain ⟨hidle, -, hg⟩ := h.settleBusy hb
  exact { hg with onWire := fun hn => absurd hidle hn, ccr := .inr hv }

theorem calm_writeTmw {v : Word} (hv : reservedTmw v = false) : Calm (writeTmw v) := by
  intro s h
  cases hb : busyHeld s with
  | true => exact writeTmw_busy v s hb ▸ calm_raise _ s h
  | false =>
    have hg := h.loadCcr hb hv
    have hw : Good (writeCcr v s) ∧ (NoAbort s → NoAbort (writeCcr v s)) := by
      simp only [writeCcr, hb, Bool.false_eq_true, if_false]
      split
      · exact ⟨hg.startFrame, id⟩
      · exact ⟨hg, id⟩
    simp only [writeTmw]
    split
    · exact hw
    · exact ⟨hw.1.emit _, hw.2⟩

theorem calm_writeAr (a : Word) : Calm (writeAr a) := by
  intro s h
  have hg : Good { s with ar := a } := { h with }
  rcases writeAr_cases a s with ⟨he, -⟩ | he <;> rw [he]
  · exact ⟨hg.startFrame, id⟩
  · exact ⟨hg, id⟩

theorem calm_report (bytes : List Byte) : Calm (report bytes) := by
  intro s h
  unfold report
  split
  · exact ⟨h, id⟩
  · exact ⟨{ h with }, id⟩

theorem calm_tmwRow {pre : Micro} (hpre : Calm pre) {v : Word} (hv : reservedTmw v = false) : Calm (tmwRow pre v) := by
  intro s h
  obtain ⟨hg, ha⟩ := hpre s h
  obtain ⟨hg', ha'⟩ := calm_writeTmw hv _ hg
  simp only [tmwRow]
  split
  · exact ⟨hg, ha⟩
  · exact ⟨hg', ha' ∘ ha⟩

theorem calm_deviceFrame (o : Byte) (f : FrameArgs) : Calm (deviceFrame o f) := by
  intro s h
  refine ⟨h.deviceFrame o f, fun ha => ?_⟩
  simp only [deviceFrame]
  repeat' split
  · exact ha
  · exact ha
  · exact (kept_deviceEnd _ _ (kept_deviceLatch _ (kept_deviceData _ f.data s))).abort ha

theorem calm_setMode (m : Mode) : Calm (setMode m) := fun _ h => ⟨{ h with }, id⟩

theorem calm_loadWindow (o m i : Rgn) : Calm (loadWindow o m i) := by
  intro s h
  rw [loadWindow_eq_bracketed]
  exact ⟨{ h with }, id⟩

theorem calm_denyStep : Calm denyStep := fun s => calm_loadWindow _ _ _ s

theorem calm_allowStep : Calm allowStep := fun s => calm_loadWindow _ _ _ s

theorem calm_loadRgn (e : Event) (o m i : Rgn) (s : State) (h : Good s) :
    Good (emit e { s with rgnOuter := o, rgnMid := m, rgnInner := i })
      ∧ (NoAbort s → NoAbort (emit e { s with rgnOuter := o, rgnMid := m, rgnInner := i })) := ⟨{ h with }, id⟩

theorem calm_loadAttr (v : Word) : Calm (loadAttr v) := by
  intro s h
  rcases loadAttr_cases v s with he | he | he | he | he <;> rw [he]
  · exact calm_raise _ s h
  · exact calm_raise _ s h
  · exact calm_loadRgn _ _ _ _ s h
  · exact calm_loadRgn _ _ _ _ s h
  · exact calm_loadRgn _ _ _ _ s h

theorem calm_enablePins : Calm enablePins := fun _ h => ⟨{ h with }, id⟩

theorem calm_peripheralReset : Calm peripheralReset :=
  fun s h => ⟨h.peripheralReset, fun _ => by simp [NoAbort, peripheralReset, crAbort]⟩

/-- The word CONFIGURE and CR.load put into `CR` sets no reserved bit and requests no abort (10_state.md R30). -/
theorem crPack_legal (prescaler : Byte) (sshift tcen : Bool) :
    crPack prescaler sshift tcen &&& 0x00FFE024 = 0 ∧ crAbort (crPack prescaler sshift tcen) = false := by
  constructor
  · apply BitVec.eq_of_getLsbD_eq
    intro i hi
    simp only [crPack, BitVec.getLsbD_and, BitVec.getLsbD_append]
    interval_cases i <;> simp
  · simp only [crAbort, crPack, BitVec.getLsbD_append]
    rfl

theorem calm_loadCr (prescaler : Byte) (sshift tcen : Bool) : Calm (loadCr (crPack prescaler sshift tcen)) := by
  intro s h
  obtain ⟨hr, ha⟩ := crPack_legal prescaler sshift tcen
  exact ⟨{ h with cr := hr }, fun _ => ha⟩

theorem calm_writeUnlistedCr {v : Word} (hv : v &&& 0x00FFE024 = 0) : Calm (writeUnlistedCr v) := by
  intro s h
  have hg : Good (loadCr v s) := { h with cr := hv }
  unfold writeUnlistedCr
  split
  · exact calm_raise _ s h
  · refine ⟨hg.finishAbort, fun _ => ?_⟩
    unfold finishAbort
    split
    · exact crAbort_clear _
    next hn => exact Bool.eq_false_of_not_eq_true hn

theorem dcrPack_legal (fsize : BitVec 5) (csht : BitVec 3) : dcrPack fsize csht &&& 0xFFE0F8FD = 0 := by
  apply BitVec.eq_of_getLsbD_eq
  intro i hi
  simp only [dcrPack, BitVec.getLsbD_and, BitVec.getLsbD_append]
  interval_cases i <;> simp

theorem calm_loadDcr {v : Word} (hv : v &&& 0xFFE0F8FD = 0) : Calm (loadDcr v) := fun _ h => ⟨{ h with dcr := hv }, id⟩

theorem reads_holds : ReadsKeep (Holds NoAbort) := fun k s hh hk hs =>
  ((hs.good hh).readDr hk).holds ((kept_readDr k s hk).abort (hs.known hh))

theorem leads_bufWrite (q : Nat) (bs : List Byte) : Leads (Holds NoAbort) (Holds NoAbort) (bufWrite q bs) := by
  refine Calm.leads fun s h => ⟨{ h with mem := ?_ }, id⟩
  obtain ⟨hp, hb, hc⟩ := h.mem
  exact ⟨hp, Memory.wf_writeList _ q bs hb, hc⟩

theorem leads_opWord (v : Word) : Leads (Holds NoAbort) (Holds NoAbort) fun s => { s with opWord := v } :=
  Calm.leads fun _ h => ⟨{ h with }, id⟩

/-! ### The frame of a primitive that writes -/

/-- A word for an indirect frame with a Data phase that writes. -/
structure WriteWord (v : Word) : Prop where
  fm : ccrFm v = 0b00
  dl : (linesOf (ccrDl v)).isSome = true

theorem WriteWord.unmapped {v : Word} (h : WriteWord v) : ccrMapped v = false := by
  simp [ccrMapped, h.fm]

theorem WriteWord.indirect {v : Word} (h : WriteWord v) : ccrIndirect v = true := by
  simp [ccrIndirect, h.fm]

theorem WriteWord.data (h : WriteWord s.ccr) : ∃ l, s.shape.data = some ⟨l, .write, s.dlr.toNat + 1⟩ := by
  obtain ⟨l, hl⟩ := Option.isSome_iff_exists.1 h.dl
  exact ⟨l, by simp [State.shape, h.unmapped, shapeOf, hl, h.fm]⟩

/-- `DLR` is loaded for `n` bytes; nothing for none. -/
def Planned (n : Nat) (s : State) : Prop := NoAbort s ∧ (n ≠ 0 → s.dlr.toNat + 1 = n)

/-- The word of a frame with an Addr phase that writes `n` bytes stands in `CCR`; the wire is idle. -/
structure Loaded (n : Nat) (s : State) : Prop where
  idle : s.ph = .idle
  fifo : s.fifo = []
  word : WriteWord s.ccr
  addr : ccrAl s.ccr ≠ 0b00
  length : s.dlr.toNat + 1 = n

/-- A frame that writes is on the wire and still waits for `n` bytes: neither moved nor in the FIFO. -/
structure Feeding (n : Nat) (s : State) : Prop where
  busy : s.busy = .one
  phase : s.ph ≠ .idle ∧ s.ph ≠ .done
  word : WriteWord s.ccr
  count : s.wireBytes.length + s.fifo.length + n = s.dlr.toNat + 1

/-- The operation is about to start its frame; nothing is known for no bytes. -/
def Poised (n : Nat) (s : State) : Prop := NoAbort s ∧ (n ≠ 0 → Loaded n s)

/-- The operation is about to push `n` bytes; nothing is known for none. -/
def Pushing (n : Nat) (s : State) : Prop := NoAbort s ∧ (n ≠ 0 → Feeding n s)

theorem Feeding.emit {n : Nat} (h : Feeding n s) (e : Event) : Feeding n (emit e s) := { h with }

theorem Feeding.enterPhase {n : Nat} (h : Feeding n s) {p : Phase} (hi : p ≠ .idle) (hd : p ≠ .done) :
    Feeding n (enterPhase p s) := by
  rcases enterPhase_cases p s with ⟨he, -⟩ | ⟨-, he⟩
  · exact absurd he hd
  · exact he ▸ { h with phase := ⟨hi, hd⟩ }

/-- With a Data phase to come no phase but that one is the last. -/
theorem nextPhase_ne_done {f : FrameShape} {p : Phase} (hd : f.data.isSome = true) (hp : p ≠ .data) : nextPhase f p ≠ .done := by
  cases p with
  | data => exact absurd rfl hp
  | _ =>
    simp only [nextPhase, hd, if_true]
    repeat' split
    all_goals simp

/-- A byte that is not the last one moves. -/
theorem Feeding.byteSent {n : Nat} (h : Feeding n s) (d : DataShape) {b : Byte} {rest : List Byte} (hf : s.fifo = b :: rest) :
    Feeding n (byteSent d b rest s) := by
  have hcount := h.count
  rw [hf, List.length_cons] at hcount
  have hmoved : Feeding n { s with
      fifo := rest, wireBytes := s.wireBytes ++ [b], io := (byteClocks d.lines .write b).getLastD s.io } :=
    { h with count := by simp only [List.length_append, List.length_singleton]; omega }
  unfold Machine.byteSent
  rcases devWriteByte_cases (answerTo s s.shape) s.wireBytes.length b
    { s with fifo := rest, wireBytes := s.wireBytes ++ [b], io := (byteClocks d.lines .write b).getLastD s.io }
    with ⟨a, -, -, he⟩ | ⟨a, -, -, he⟩ | he <;> rw [he]
  · exact { hmoved with }
  · exact { hmoved with }
  · exact hmoved

theorem Feeding.wireData {n : Nat} (h : Feeding n s) (hn : 0 < n) {d : DataShape} (hdir : d.dir = .write)
    (hlen : d.len = s.dlr.toNat + 1) : Feeding n (wireData d s) := by
  rcases wireData_cases d s with he | ⟨b, rest, -, hf, he⟩ | ⟨b, hr, -⟩
  · rw [he]
    exact h
  · have hcount := h.count
    rw [hf, List.length_cons] at hcount
    rw [he, if_pos (by omega)]
    exact h.byteSent d hf
  · exact absurd (hdir.symm.trans hr) nofun

/-- The frame stays on the wire while it waits for bytes. -/
theorem Feeding.wireStep {n : Nat} (h : Feeding n s) (hn : 0 < n) (ha : NoAbort s) : Feeding n (wireStep s) := by
  obtain ⟨l, hdata⟩ := h.word.data
  have hsome : s.shape.data.isSome = true := by simp [hdata]
  have hio (l : LineClock) : Feeding n { s with io := l } := { h with }
  have hsend (l : LineClock) {p : Phase} (hi : p ≠ .idle) (hd : p ≠ .done) (hp : p ≠ .data) :
      Feeding n (Machine.enterPhase (nextPhase s.shape p) { s with io := l }) :=
    (hio l).enterPhase (nextPhase_ne_idle _ hi hd) (nextPhase_ne_done hsome hp)
  unfold Machine.wireStep
  rw [if_neg (by simpa [NoAbort] using ha)]
  split
  · exact h
  split
  next hp => exact absurd hp h.phase.1
  next =>
    obtain ⟨ps, ep, m, he, -⟩ := deviceLatch_eq (answerTo s s.shape) { s with io := phaseIo s }
    have hlatch : Feeding n (Machine.deviceLatch (answerTo s s.shape) { s with io := phaseIo s }) := by
      rw [he]
      exact { h with }
    exact hlatch.enterPhase (nextPhase_ne_idle _ nofun nofun) (nextPhase_ne_done hsome nofun)
  next => exact hsend _ nofun nofun nofun
  next => exact hsend _ nofun nofun nofun
  next => exact hsend _ nofun nofun nofun
  next =>
    rw [hdata]
    simp only [h.word.unmapped, Bool.false_eq_true, if_false]
    exact h.wireData hn rfl rfl
  next hp => exact absurd hp h.phase.2

/-- An access under an indirect word that ends in no outcome is only recorded. -/
theorem mappedAccess_emit {kind : CpuKind} {a : Word} {k : CpuSize} (hm : ccrMapped s.ccr = false)
    (h : halted (mappedAccess kind a k s) = false) : ∃ e, mappedAccess kind a k s = emit e s := by
  have hf := fault_of_not_halted h
  rcases mappedAccess_unmapped kind a k hm with ⟨v, he⟩ | he | he
  · exact ⟨_, he⟩
  · rw [he] at hf
    exact absurd hf nofun
  · rw [he] at hf
    exact absurd hf nofun

theorem closed_planned (n : Nat) : Closed (Holds (Planned n)) := by
  refine closed_holds (fun s _ h => ?_) (fun kind a k s h hn => ?_) (fun _ _ h => h)
  · exact ⟨(kept_wireStep s).abort h.1, fun hz => (kept_wireStep s).dlr ▸ h.2 hz⟩
  · exact ⟨(kept_mappedAccess hn).abort h.1, fun hz => (kept_mappedAccess hn).dlr ▸ h.2 hz⟩

theorem closed_poised (n : Nat) : Closed (Holds (Poised n)) := by
  refine closed_holds (fun s _ h => ?_) (fun kind a k s h hn => ?_) (fun _ _ h => ⟨h.1, fun hz => { h.2 hz with }⟩)
  · refine ⟨(kept_wireStep s).abort h.1, fun hz => ?_⟩
    rw [wireStep_still s h.1 (.inr (h.2 hz).idle)]
    exact h.2 hz
  · refine ⟨(kept_mappedAccess hn).abort h.1, fun hz => ?_⟩
    obtain ⟨e, he⟩ := mappedAccess_emit (h.2 hz).word.unmapped hn
    exact he ▸ { h.2 hz with }

theorem closed_pushing (n : Nat) : Closed (Holds (Pushing n)) := by
  refine closed_holds (fun s _ h => ?_) (fun kind a k s h hn => ?_) (fun _ _ h => ⟨h.1, fun hz => { h.2 hz with }⟩)
  · exact ⟨(kept_wireStep s).abort h.1, fun hz => (h.2 hz).wireStep (Nat.pos_of_ne_zero hz) h.1⟩
  · refine ⟨(kept_mappedAccess hn).abort h.1, fun hz => ?_⟩
    obtain ⟨e, he⟩ := mappedAccess_emit (h.2 hz).word.unmapped hn
    exact he ▸ (h.2 hz).emit e

end Sys2Proof.Machine
end

section
/-! PROOF. O7, the operations: the micro-steps that lead from one thing an operation knows to the next, each operation's list, and the end
of an operation. -/

namespace Sys2Proof.Machine

variable {s t : State}

/-! ### The primitives that write the FIFO -/

/-- `DLR` holds the length minus 1 (10_state.md R34). -/
theorem toNat_pred {len : Word} (h : len ≠ 0) : (len - 1).toNat + 1 = len.toNat := by
  bv_omega

theorem leads_writeDlr (v : Word) : Leads (Holds NoAbort) (Holds (Planned (v.toNat + 1))) (writeDlr v) := by
  intro s hh hs
  obtain ⟨hg, ha⟩ := calm_writeDlr v s (hs.good hh)
  exact hg.holds ⟨ha (hs.known hh), fun _ => rfl⟩

theorem leads_writeLength (len : Word) : Leads (Holds NoAbort) (Holds (Planned len.toNat)) (writeLength len) := by
  intro s hh hs
  by_cases hl : len = 0
  · rw [hl]
    exact (hs.good hh).holds ⟨hs.known hh, fun hn => absurd rfl hn⟩
  · have h := leads_writeDlr (len - 1) s hh hs
    rw [toNat_pred hl] at h
    have he : writeLength len s = writeDlr (len - 1) s := if_neg (by simpa using hl)
    rwa [he]

/-- Where the word is written, the wire is idle and the FIFO empty. -/
theorem writeTmw_from_idle {v : Word} (hg : Good s) (hh : halted s = false) (hn : halted (writeTmw v s) = false) :
    s.ph = .idle ∧ s.fifo = [] ∧ writeTmw v s = modeWordWritten v s := by
  cases hb : busyHeld s with
  | true =>
    rw [writeTmw_busy v s hb] at hn
    exact absurd (fault_of_not_halted hn) nofun
  | false =>
    obtain ⟨hi, hf, -⟩ := hg.settleBusy hb
    exact ⟨hi, hf, writeTmw_eq_modeWordWritten v s hb (fault_of_not_halted hh)⟩

/-- A word with an Addr phase starts no frame. -/
theorem leads_writeTmw_poised (n : Nat) {v : Word} (hv : reservedTmw v = false) (hw : n ≠ 0 → WriteWord v ∧ ccrAl v ≠ 0b00) :
    Leads (Holds (Planned n)) (Holds (Poised n)) (writeTmw v) := by
  intro s hh hs
  obtain ⟨hg, ha⟩ := calm_writeTmw hv s (hs.good hh)
  obtain ⟨hab, hlen⟩ := hs.known hh
  refine ⟨hg.mid, fun hn => ⟨ha hab, fun hz => ?_⟩⟩
  obtain ⟨hi, hf, he⟩ := writeTmw_from_idle (hs.good hh) hh hn
  obtain ⟨hword, haddr⟩ := hw hz
  rw [he]
  exact { idle := by simpa [modeWordWritten, hi] using fun _ => haddr, fifo := hf, word := hword, addr := haddr, length := hlen hz }

/-- A word without an Addr phase starts the frame. -/
theorem leads_writeTmw_pushing (n : Nat) {v : Word} (hv : reservedTmw v = false) (hword : WriteWord v) (haddr : ccrAl v = 0b00) :
    Leads (Holds (Planned n)) (Holds (Pushing n)) (writeTmw v) := by
  intro s hh hs
  obtain ⟨hg, ha⟩ := calm_writeTmw hv s (hs.good hh)
  obtain ⟨hab, hlen⟩ := hs.known hh
  refine ⟨hg.mid, fun hn => ⟨ha hab, fun hz => ?_⟩⟩
  obtain ⟨hi, hf, he⟩ := writeTmw_from_idle (hs.good hh) hh hn
  rw [he]
  exact
    { busy := by simp [modeWordWritten, hword.indirect, haddr]
      phase := by simp [modeWordWritten, hword.indirect, haddr]
      word := hword
      count := by simp [modeWordWritten, hword.indirect, haddr, hf, hlen hz] }

/-- The address starts the frame. -/
theorem leads_writeAr_pushing (n : Nat) (a : Word) : Leads (Holds (Poised n)) (Holds (Pushing n)) (writeAr a) := by
  intro s hh hs
  obtain ⟨hg, ha⟩ := calm_writeAr a s (hs.good hh)
  obtain ⟨hab, hl⟩ := hs.known hh
  refine hg.holds ⟨ha hab, fun hz => ?_⟩
  obtain ⟨-, hfifo, hword, haddr, hlen⟩ := hl hz
  have he : writeAr a s = startFrame { s with ar := a } :=
    if_pos (by simpa [hword.indirect] using haddr)
  rw [he]
  exact { busy := rfl, phase := ⟨nofun, nofun⟩, word := hword, count := by simp [hfifo, hlen] }

/-- Bytes are pushed while the frame waits for them. -/
theorem leads_writeDr (n k : Nat) (v : Word) (hk : k ≠ 0) (hk' : k ≤ 4) :
    Leads (Holds (Pushing (n + k))) (Holds (Pushing n)) (writeDr k v) := by
  intro s hh hs
  obtain ⟨hab, hfeed⟩ := hs.known hh
  have h := hfeed (by omega)
  refine ⟨((hs.good hh).writeDr h.busy k v).mid, fun hn => ?_⟩
  rcases writeDr_cases k v s with ⟨-, he⟩ | ⟨-, he⟩
  · rw [he] at hn
    exact absurd (fault_of_not_halted hn) nofun
  · rw [he]
    have hcount := h.count
    have hbytes : (leBytes v).length = 4 := rfl
    exact ⟨hab, fun _ => { h with
      count := by simp only [List.length_append, List.length_take, hbytes]; omega }⟩

theorem leads_pushBytes (n q : Nat) : Leads (Holds (Pushing n)) (Holds NoAbort) (pushBytes n q) := by
  intro s hh hs
  have h := pushBytes_leads (I := fun n => Holds (Pushing n)) closed_pushing
    (fun n v s hh _ hs => leads_writeDr n 1 v (by omega) (by omega) s hh hs) (fun _ _ hh hs => hs.of_halted hh) n q s hh hs
  exact ⟨h.mid, fun hn => (h.known hn).1⟩

theorem leads_pushPair (q : Word) : Leads (Holds (Pushing 2)) (Holds NoAbort) (pushPair q) := by
  intro s hh hs
  have h := leads_writeDr 0 2 ((0 : BitVec 16) ++ bufByte s (q.toNat + 1) ++ bufByte s q.toNat) (by omega) (by omega) s hh hs
  exact ⟨h.mid, fun hn => (h.known hn).1⟩

/-! ### The waits and the aborts -/

theorem leads_waitFor (cond : State → Bool) (w : Wait) : Leads (Holds NoAbort) (Holds NoAbort) (waitFor cond w) :=
  closed_noAbort.waitFor cond w

theorem leads_requestAbort (P : State → Prop) : Leads (Holds P) (Holds fun _ => True) requestAbort :=
  fun _ hh hs => (hs.good hh).requestAbort.holds trivial

theorem leads_abortIfBusy : Leads (Holds NoAbort) (Holds fun _ => True) abortIfBusy := by
  intro s hh hs
  have hr : Holds (fun _ => True) (readBusy s).2 := (hs.good hh).readBusy.holds trivial
  have hh' : halted (readBusy s).2 = false := (kept_readBusy s).halted.trans hh
  have hg := hr.good hh'
  simp only [abortIfBusy]
  split
  · have hi := closed_true.interleave _ hh' hr
    split
    · exact hi
    next hn => exact leads_requestAbort _ _ (Bool.eq_false_of_not_eq_true hn) hi
  next hb =>
    have hread : busyReads s = false := by simpa [readBusy_eq] using hb
    have hheld : busyHeld s = false := by
      cases hheld : busyHeld s with
      | false => rfl
      | true => exact absurd (busyReads_of_busyHeld s hheld) (by simp [hread])
    obtain ⟨-, -, hsettled⟩ := (hs.good hh).settleBusy hheld
    rw [readBusy_eq]
    exact Good.holds { hsettled with } trivial

/-- The wait for an abort ends with none pending. -/
theorem leads_waitAbort : Leads (Holds fun _ => True) (Holds NoAbort) waitAbort := by
  intro s hh hs
  have h := closed_true.waitLoop abortDone .abortComplete 1 s hh hs
  exact ⟨h.mid, fun hn => by simpa [abortDone, NoAbort, waitAbort] using waitLoop_cond abortDone .abortComplete 1 s hn⟩

/-! ### The operations, by their micro-steps -/

/-- A micro-step, or a list of them, keeps the invariant from a state with no abort pending to one with none. -/
abbrev Tame (m : Micro) : Prop := Leads (Holds NoAbort) (Holds NoAbort) m

theorem holds_cons {P Q R : State → Prop} {m : Micro} {ms : List Micro} (hP : Closed (Holds P)) (hm : Leads (Holds P) (Holds Q) m)
    (hms : Leads (Holds Q) (Holds R) (runMicros ms)) : Leads (Holds P) (Holds R) (runMicros (m :: ms)) :=
  runMicros_cons_leads hP (fun _ hh h => h.of_halted hh) (fun _ hh h => h.of_halted hh) hm hms

theorem tame_list {ms : List Micro} (h : ∀ m ∈ ms, Tame m) : Tame (runMicros ms) := closed_noAbort.runMicros h

theorem tame_append {xs ys : List Micro} (hx : Tame (runMicros xs)) (hy : Tame (runMicros ys)) : Tame (runMicros (xs ++ ys)) := by
  intro s hh hs
  rw [runMicros_append xs ys s hh]
  have h := hx s hh hs
  split
  · exact h
  next hn => exact hy _ (Bool.eq_false_of_not_eq_true hn) h

theorem tame_cons {m : Micro} {ms : List Micro} (hm : Tame m) (hms : Tame (runMicros ms)) : Tame (runMicros (m :: ms)) :=
  holds_cons closed_noAbort hm hms

theorem tame_configure (p : Params) : Tame (runMicros (configureSteps p)) := by
  refine tame_list ?_
  simp only [configureSteps, List.forall_mem_cons]
  exact ⟨(calm_check (fun s => paramsLegal s.par) _).leads, calm_enablePins.leads, calm_peripheralReset.leads,
    (calm_loadCr _ _ _).leads, (calm_loadDcr (dcrPack_legal _ _)).leads, nofun⟩

theorem tame_initialise (p : Params) : Tame (runMicros (initialiseSteps p)) := by
  refine tame_append (tame_configure p) (tame_list ?_)
  simp only [List.forall_mem_cons]
  exact ⟨calm_denyStep.leads, (calm_setMode _).leads, nofun⟩

theorem tame_rdid : Tame (runMicros rdidSteps) := by
  refine tame_list ?_
  simp only [rdidSteps, List.forall_mem_cons]
  exact ⟨calm_commonPre.leads, calm_clearTcf.leads, (calm_writeDlr 7).leads, (calm_writeTmw reservedTmw_rdid).leads,
    (calm_writeAr 0).leads, closed_noAbort.readIdentification reads_holds fun id => (calm_report id).leads, nofun⟩

theorem tame_cmd (o : Byte) (n : Lines) : Tame (runMicros (cmdSteps o n)) := by
  refine tame_list ?_
  simp only [cmdSteps, List.forall_mem_cons]
  exact ⟨calm_commonPre.leads, calm_clearTcf.leads, (calm_writeTmw (reservedTmw_cmd o n)).leads, leads_waitFor _ _,
    leads_waitFor _ _, nofun⟩

/-- A wait for the end of the transfer, and for the frame to leave the wire. -/
theorem tame_finish : Tame (runMicros [waitFor transferComplete .transferComplete, settle]) :=
  tame_cons (leads_waitFor _ _) (tame_cons (leads_waitFor _ _) (tame_list nofun))

theorem tame_wr1 (o : Byte) (len q : Word) : Tame (runMicros (wr1Steps o len q)) := by
  have hword : WriteWord (tmwOfWr1 o) := ⟨by simp [tmwOfWr1], by simp [tmwOfWr1, linesOf]⟩
  have haddr : ccrAl (tmwOfWr1 o) = 0b00 := by simp [tmwOfWr1]
  exact tame_cons calm_commonPre.leads <| tame_cons (calm_check (fun _ => len == 2) _).leads <| tame_cons calm_clearTcf.leads <|
    holds_cons closed_noAbort (leads_writeDlr 1) <|
    holds_cons (closed_planned 2) (leads_writeTmw_pushing 2 (reservedTmw_wr1 o) hword haddr) <|
    holds_cons (closed_pushing 2) (leads_pushPair q) tame_finish

theorem tame_wra (p : Params) (o : Byte) (n : Lines) (a len q : Word) : Tame (runMicros (wraSteps p o n a len q)) := by
  have hword (hz : len.toNat ≠ 0) : WriteWord (tmwOfWra p o n a len) ∧ ccrAl (tmwOfWra p o n a len) ≠ 0b00 := by
    have hl : len ≠ 0 := fun he => hz (by simp [he])
    have hdl : (if len == 0 then 0b00 else lineCode n) = lineCode n := if_neg (by simpa using hl)
    exact ⟨⟨by simp [tmwOfWra], by rw [tmwOfWra, hdl]; simp⟩, by cases n <;> simp [tmwOfWra, lineCode]⟩
  exact tame_cons calm_commonPre.leads <| tame_cons calm_clearTcf.leads <|
    holds_cons closed_noAbort (leads_writeLength len) <|
    holds_cons (closed_planned len.toNat) (leads_writeTmw_poised len.toNat (reservedTmw_wra p o n a len) hword) <|
    holds_cons (closed_poised len.toNat) (leads_writeAr_pushing len.toNat a) <|
    holds_cons (closed_pushing len.toNat) (leads_pushBytes len.toNat q.toNat) tame_finish

theorem tame_rd1 (o : Byte) (len : Word) : Tame (runMicros (rd1Steps o len)) := by
  refine tame_list ?_
  simp only [rd1Steps, List.forall_mem_cons]
  exact ⟨calm_commonPre.leads, (calm_check (fun _ => _) _).leads, calm_clearTcf.leads, (calm_writeDlr _).leads,
    (calm_writeTmw (reservedTmw_rd1 o)).leads, leads_waitFor _ _, closed_noAbort.assembleWord reads_holds leads_opWord _,
    leads_waitFor _ _, nofun⟩

theorem tame_rda (p : Params) (o : Byte) (n : Lines) (a len q : Word) : Tame (runMicros (rdaSteps p o n a len q)) := by
  refine tame_list ?_
  simp only [rdaSteps, List.forall_mem_cons]
  exact ⟨calm_commonPre.leads, (calm_check (fun _ => _) _).leads, (calm_check (fun _ => _) _).leads, calm_clearTcf.leads,
    (calm_writeDlr _).leads, (calm_writeAlt _).leads, (calm_writeTmw (reservedTmw_rda p o n a)).leads, (calm_writeAr a).leads,
    closed_noAbort.drain reads_holds leads_bufWrite _ _, leads_waitFor _ _, nofun⟩

theorem tame_mmap (p : Params) : Tame (runMicros (mmapSteps p)) := by
  refine tame_list ?_
  simp only [mmapSteps, List.forall_mem_cons]
  exact ⟨calm_mmapPre.leads, (calm_writeAlt _).leads, (calm_writeTmw (reservedTmw_mmap p)).leads, nofun⟩

theorem tame_abort : Tame (runMicros abortSteps) :=
  tame_cons (calm_check (fun s => crEn s.cr) _).leads <| holds_cons closed_noAbort (leads_requestAbort _) <|
    holds_cons closed_true leads_waitAbort (tame_list nofun)

theorem tame_acquire : Tame (runMicros acquireSteps) :=
  tame_cons calm_acquirePre.leads <| tame_cons calm_denyStep.leads <| holds_cons closed_noAbort leads_abortIfBusy <|
    holds_cons closed_true leads_waitAbort <| tame_cons (calm_setMode _).leads (tame_list nofun)

theorem tame_release (p : Params) : Tame (runMicros (releaseSteps p)) := by
  refine tame_cons (calm_check (fun s => s.mode == .indirectAccess) _).leads (tame_append (tame_mmap p) (tame_list ?_))
  simp only [List.forall_mem_cons]
  exact ⟨calm_allowStep.leads, (calm_setMode _).leads, nofun⟩

theorem tame_init (p : Params) : Tame (runMicros (initSteps p)) :=
  tame_append (tame_append (tame_initialise p) tame_rdid) (tame_cmd _ _)

theorem tame_read (p : Params) (a len q : Word) : Tame (runMicros (readSteps p a len q)) := by
  unfold readSteps
  split
  · exact tame_list nofun
  · exact tame_cons (calm_accessPre _ a len).leads (tame_append (tame_append tame_acquire (tame_rda _ _ _ _ _ _)) (tame_release p))

theorem tame_write (p : Params) (a len q : Word) : Tame (runMicros (writeSteps p a len q)) := by
  unfold writeSteps
  split
  · exact tame_list nofun
  · exact tame_cons (calm_accessPre _ a len).leads (tame_append (tame_append tame_acquire (tame_wra _ _ _ _ _ _)) (tame_release p))

/-! ### Every instruction -/

/-- Work that keeps the invariant: as an operation whatever it leaves open, as the step of an agent by itself. -/
def Work.Tame (k : Work) : Prop :=
  match k with
  | .operation ms => Machine.Tame (runMicros ms)
  | .agent m => Machine.Tame m

theorem workOf_tame (p : Params) (i : Instr) : (workOf p i).Tame := by
  cases i
  case configure => exact tame_configure p
  case denyAll => exact tame_list (List.forall_mem_singleton.2 calm_denyStep.leads)
  case allowMapped => exact tame_list (List.forall_mem_singleton.2 calm_allowStep.leads)
  case rdid => exact tame_rdid
  case cmd o n => exact tame_cmd o n
  case wr1 o len q => exact tame_wr1 o len q
  case wra o n a len q => exact tame_wra p o n a len q
  case rd1 o len => exact tame_rd1 o len
  case rda o n a len q => exact tame_rda p o n a len q
  case mmapCfg => exact tame_mmap p
  case abort => exact tame_abort
  case initialise => exact tame_initialise p
  case acquire => exact tame_acquire
  case release => exact tame_release p
  case init => exact tame_init p
  case read a len q => exact tame_read p a len q
  case write a len q => exact tame_write p a len q
  case cpuLoad | cpuStore | cpuFetch | cpuSpec => exact closed_noAbort.access _ _ _
  case tmwRdid => exact (calm_tmwRow calm_commonPre reservedTmw_rdid).leads
  case tmwCmd o il => exact (calm_tmwRow calm_commonPre (reservedTmw_cmd o il)).leads
  case tmwWr1 o => exact (calm_tmwRow calm_commonPre (reservedTmw_wr1 o)).leads
  case tmwWra o il al sz dl =>
    exact (calm_tmwRow calm_commonPre (reservedTmw_wraWord o il al sz _ (lineCode_legal dl).1)).leads
  case tmwWra0 o il al sz => exact (calm_tmwRow calm_commonPre (reservedTmw_wraWord o il al sz _ rfl)).leads
  case tmwRd1 o => exact (calm_tmwRow calm_commonPre (reservedTmw_rd1 o)).leads
  case tmwRda4 o il sz abl =>
    exact (calm_tmwRow calm_commonPre (reservedTmw_quadRead _ rfl _ _ (lineCodeOpt_legal abl) sz il o)).leads
  case tmwRda1 o sz => exact (calm_tmwRow calm_commonPre (reservedTmw_rda1 o sz)).leads
  case tmwMmapCfg il sz abl =>
    exact (calm_tmwRow calm_mmapPre (reservedTmw_quadRead _ rfl _ _ (lineCodeOpt_legal abl) sz il _)).leads
  case opRead | opFastRead | opQuadRead | opWrite | opQuadWrite | opEnterQuad | opExitQuad | opResetEnable | opReset
    | opSetBurst | opReadId => exact (calm_deviceFrame _ _).leads
  case rgnAttrOuter | rgnAttrMid | rgnAttrInner => exact Calm.leads fun s h => calm_loadRgn _ _ _ _ s h
  case crLoad => exact (calm_loadCr _ _ _).leads
  case dcrLoad => exact (calm_loadDcr (dcrPack_legal _ _)).leads
  all_goals exact tame_list (List.forall_mem_singleton.2 (calm_raise _).leads)

/-- What the decoder answers for a presentation that is no row fits its register (30_encoding.md R132, 10_state.md R30, R31). -/
def FitsRegister (e : DecodeError) : Prop :=
  match e with
  | .unlistedTmw v => reservedTmw v = false
  | .unlistedCr v => v &&& crReserved = 0
  | .unlistedDcr v => v &&& dcrReserved = 0
  | .reservedTmw | .unlistedOpcode .. | .unlistedAttr _ | .reservedRegisterBit => True

theorem decode_error_fits (x : Input) (e : DecodeError) (h : decode x = .error e) : FitsRegister e := by
  obtain ⟨port, bs⟩ := x
  cases port
  case op => simp [decode] at h
  case cpu => simp [decode] at h
  case tmw =>
    simp only [decode, decodeTmw] at h
    split at h
    · cases h
      trivial
    next hr =>
      repeat' split at h
      all_goals cases h
      exact Bool.eq_false_of_not_eq_true hr
  case opc8 =>
    simp only [decode, decodeOpc8] at h
    split at h <;> cases h
    trivial
  case rgn =>
    simp only [decode, decodeRgn] at h
    repeat' split at h
    all_goals cases h
    trivial
  case cfg =>
    simp only [decode, decodeCfg] at h
    repeat' split at h
    all_goals cases h
    next hd => exact eq_of_beq hd
    next hc => exact eq_of_beq hc
    trivial

theorem calm_presentUnlisted {e : DecodeError} (h : FitsRegister e) : Calm (presentUnlisted e) := by
  cases e with
  | reservedTmw => exact calm_raise _
  | unlistedTmw v =>
    refine calm_tmwRow ?_ h
    split
    · exact calm_mmapPre
    · exact calm_commonPre
  | unlistedOpcode o f => exact calm_deviceFrame o f
  | unlistedAttr v => exact calm_loadAttr v
  | unlistedCr v => exact calm_writeUnlistedCr h
  | unlistedDcr v => exact calm_loadDcr h
  | reservedRegisterBit => exact calm_raise _

/-! ### Between steps -/

/-- Between steps the invariant is what holds within an operation, with no abort pending where no outcome is recorded. -/
theorem inv_iff (s : State) : Inv s ↔ Mid s ∧ (isWedged s = false → s.fault = none → NoAbort s) ∧ s.unwound = false := by
  constructor
  · rintro ⟨hblock, hmem, hu⟩
    refine ⟨⟨fun hw => ?_, hmem⟩, fun hw hf => ?_, hu⟩
    · obtain ⟨⟨honWire, hfifo, hncs, hclk, hio, hlevel⟩, hcr, -, hdcr, hccr⟩ := hblock hw
      exact ⟨honWire, hfifo, hncs, hclk, hio, hlevel, hcr, hdcr, hccr, hmem⟩
    · obtain ⟨-, -, ha, -⟩ := hblock hw
      exact ha hf
  · rintro ⟨hmid, ha, hu⟩
    refine ⟨fun hw => ?_, hmid.mem, hu⟩
    have hg := hmid.block hw
    exact ⟨⟨hg.onWire, hg.fifo, hg.nCS, hg.clk, hg.io, hg.level⟩, hg.cr, ha hw, hg.dcr, hg.ccr⟩

theorem inv_of_holds (h : Holds NoAbort t) (hu : t.unwound = false) : Inv t :=
  (inv_iff t).2 ⟨h.mid, fun _ hf => h.known (by simp [halted, hf, hu]), hu⟩

/-- The end of an operation: an outcome stands recorded, a caller that was unwound leaves no abort pending, or the operation is done. -/
theorem inv_endOp (h : Holds NoAbort t) : Inv (endOp t) := by
  rw [inv_iff]
  unfold endOp
  split
  next hf =>
    refine ⟨⟨fun hw => { h.mid.block hw with }, h.mid.mem⟩, fun _ hn => ?_, rfl⟩
    simp only at hn
    simp [hn] at hf
  next hf =>
    have hf : t.fault = none := by simpa using hf
    have hg := h.mid.block (isWedged_of_fault_none hf)
    split
    · refine ⟨Good.mid { hg.finishAbort with }, fun _ _ => ?_, rfl⟩
      unfold finishAbort
      split
      · exact crAbort_clear _
      next hn => exact Bool.eq_false_of_not_eq_true hn
    next hu =>
      have hu : t.unwound = false := Bool.eq_false_of_not_eq_true hu
      exact ⟨Good.mid { hg with }, fun _ _ => h.known (by simp [halted, hf, hu]), hu⟩

theorem inv_after {k : Work} {w : Part → Bool} (hk : k.Tame) (hw : k.Within w) (hc : (∃ m, k = .agent m) → w .caller = false)
    (hs : Holds NoAbort s) (hh : halted s = false) : Inv (k.after s) := by
  cases k with
  | agent m => exact inv_of_holds (hk s hh hs) (((hw s).caller (hc ⟨m, rfl⟩)).trans ((halted_eq_false s).1 hh).2)
  | operation ms =>
    have hbegin : Holds NoAbort (beginOp s) := Good.holds { hs.good hh with } (hs.known hh)
    exact inv_endOp (hk _ (by simpa [halted] using fault_of_not_halted hh) hbegin)

theorem isOperation_of_agent {p : Params} {i : Instr} (h : ∃ m, workOf p i = .agent m) : isOperation i = false := by
  obtain ⟨m, h⟩ := h
  cases i <;> cases h <;> rfl

/-- Settles O7: the wire engine, the work of every instruction, and a presentation that is no row each keep the invariant. -/
theorem stepKeepsInvariant : Obligations.StepKeepsInvariant := by
  intro s t hs h
  obtain ⟨hf, hcase⟩ := step_next_cases s t h
  obtain ⟨hmid, ha, hu⟩ := (inv_iff s).1 hs
  have hh : halted s = false := (halted_eq_false s).2 ⟨hf, hu⟩
  have hholds : Holds NoAbort s := ⟨hmid, fun _ => ha (isWedged_of_fault_none hf) hf⟩
  have hqueue (rest : List Input) : Holds NoAbort { s with inputs := rest } :=
    Good.holds { hholds.good hh with } (hholds.known hh)
  rcases hcase with rfl | ⟨rest, i, rfl⟩ | ⟨x, rest, e, hd, rfl⟩
  · exact inv_of_holds (closed_noAbort.wire s hh hholds) ((kept_wireStep s).unwound.trans hu)
  · exact inv_after (workOf_tame s.par i) (workOf_within s.par i) isOperation_of_agent (hqueue rest) hh
  · have hcaller : Changes (fun part => part matches .window | .config) { s with inputs := rest } _ :=
      changes_presentUnlisted rfl rfl e { s with inputs := rest }
    exact inv_of_holds ((calm_presentUnlisted (decode_error_fits x e hd)).leads _ hh (hqueue rest)) ((hcaller.caller rfl).trans hu)

end Sys2Proof.Machine
end

section
/-! PROOF. O11 and O12: what holds of `allowed` at the edges of the regions holds at every address of the span, since between two edges
neither a region's match nor the valid sub-range begins or ends (10_state.md R52, 20_memory.md R84, R85). -/

namespace Sys2Proof.Machine

variable {r : Rgn} {s : State} {a e : Nat}

/-- Eight sub-regions make up the region, unless it is smaller than eight bytes. -/
theorem rgnSize_eq_eighths (h : 0 < rgnSize r / 8) : rgnSize r = 8 * (rgnSize r / 8) := by
  have hexp : 3 ≤ r.sizeClass.toNat + 1 := by
    by_contra hlt
    have hpow : rgnSize r ≤ 2 ^ 2 := Nat.pow_le_pow_right (by decide) (by omega)
    omega
  have hdvd : 8 ∣ rgnSize r := Nat.pow_dvd_pow 2 hexp
  omega

theorem rgnEdges_eighth {j : Nat} (h : j ≤ 8) : r.base.toNat + j * (rgnSize r / 8) ∈ rgnEdges r :=
  List.mem_append_left _ (List.mem_map.2 ⟨j, List.mem_range.2 (by omega), rfl⟩)

theorem rgnEdges_base : r.base.toNat ∈ rgnEdges r := by
  simpa using rgnEdges_eighth (r := r) (j := 0) (by omega)

theorem rgnEdges_end : r.base.toNat + rgnSize r ∈ rgnEdges r :=
  List.mem_append_right _ List.mem_cons_self

/-- No edge lies above `e` and not above `a`, so both lie in the same sub-region. -/
theorem subregion_eq (hle : e ≤ a) (hedges : ∀ x ∈ rgnEdges r, x ≤ a → x ≤ e) (hb : r.base.toNat ≤ a)
    (ha : a < r.base.toNat + rgnSize r) :
    (a - r.base.toNat) / (rgnSize r / 8) = (e - r.base.toNat) / (rgnSize r / 8) := by
  rcases Nat.eq_zero_or_pos (rgnSize r / 8) with hq | hq
  · simp [hq]
  · have hsize := rgnSize_eq_eighths hq
    have hlt : (a - r.base.toNat) / (rgnSize r / 8) < 8 := Nat.div_lt_of_lt_mul (by rw [Nat.mul_comm]; omega)
    have hmul := Nat.div_mul_le_self (a - r.base.toNat) (rgnSize r / 8)
    have hedge := hedges _ (rgnEdges_eighth (r := r) (Nat.le_of_lt hlt)) (by omega)
    exact Nat.le_antisymm ((Nat.le_div_iff_mul_le hq).2 (by omega)) (Nat.div_le_div_right (by omega))

/-- A region matches either both or neither of two addresses with no edge of it between them. -/
theorem rgnMatches_eq (hle : e ≤ a) (hedges : ∀ x ∈ rgnEdges r, x ≤ a → x ≤ e) : rgnMatches r e = rgnMatches r a := by
  have hb : r.base.toNat ≤ e ↔ r.base.toNat ≤ a := ⟨fun h => Nat.le_trans h hle, hedges _ rgnEdges_base⟩
  have hend : e < r.base.toNat + rgnSize r ↔ a < r.base.toNat + rgnSize r := by
    have := hedges _ (rgnEdges_end (r := r))
    omega
  by_cases hin : r.base.toNat ≤ a ∧ a < r.base.toNat + rgnSize r
  · simp [rgnMatches, hb, hend, subregion_eq hle hedges hin.1 hin.2]
  · have hout (x : Nat) (hx : ¬(r.base.toNat ≤ x ∧ x < r.base.toNat + rgnSize r)) : rgnMatches r x = false := by
      simp only [rgnMatches]
      simp_all
    rw [hout a hin, hout e (by rwa [hb, hend])]

theorem mem_windowEdges (x : Nat) :
    x ∈ windowEdges s ↔
      (x = spanBase s.par ∨ x = spanBase s.par + capBytes s.par ∨ x ∈ rgnEdges s.rgnInner ∨ x ∈ rgnEdges s.rgnMid
        ∨ x ∈ rgnEdges s.rgnOuter) ∧ inSpan s.par x = true := by
  simp [windowEdges]

theorem inSpan_iff (p : Params) (x : Nat) : inSpan p x = true ↔ spanBase p ≤ x ∧ x < spanBase p + Config.spanBytes := by
  simp [inSpan]

/-- The last edge not above an address of the span. -/
theorem exists_last_edge (ha : inSpan s.par a = true) :
    ∃ e ∈ windowEdges s, e ≤ a ∧ ∀ x ∈ windowEdges s, x ≤ a → x ≤ e := by
  obtain ⟨hlo, hhi⟩ := (inSpan_iff s.par a).1 ha
  have hbase : spanBase s.par ∈ windowEdges s := (mem_windowEdges _).2 ⟨.inl rfl, (inSpan_iff _ _).2 (by omega)⟩
  exact ⟨Nat.findGreatest (· ∈ windowEdges s) a, Nat.findGreatest_spec (P := (· ∈ windowEdges s)) hlo hbase,
    Nat.findGreatest_le a, fun x hx hxa => Nat.le_findGreatest hxa hx⟩

/-- Every address of the span is like some edge. -/
theorem exists_edge_like (ha : inSpan s.par a = true) :
    ∃ e ∈ windowEdges s, allowed s e = allowed s a ∧ inValid s.par e = inValid s.par a := by
  obtain ⟨e, he, hea, hlast⟩ := exists_last_edge ha
  obtain ⟨hlo, hhi⟩ := (inSpan_iff s.par a).1 ha
  obtain ⟨helo, -⟩ := (inSpan_iff s.par e).1 ((mem_windowEdges e).1 he).2
  -- An edge below the span is below `e` as well.
  have hedge (x : Nat) (hx : inSpan s.par x = true → x ∈ windowEdges s) (hxa : x ≤ a) : x ≤ e := by
    rcases Nat.lt_or_ge x (spanBase s.par) with hlt | hge
    · omega
    · exact hlast x (hx ((inSpan_iff _ _).2 (by omega))) hxa
  have hinner := rgnMatches_eq (r := s.rgnInner) hea fun x hx => hedge x fun hs => (mem_windowEdges x).2 ⟨by simp [hx], hs⟩
  have hmid := rgnMatches_eq (r := s.rgnMid) hea fun x hx => hedge x fun hs => (mem_windowEdges x).2 ⟨by simp [hx], hs⟩
  have houter := rgnMatches_eq (r := s.rgnOuter) hea fun x hx => hedge x fun hs => (mem_windowEdges x).2 ⟨by simp [hx], hs⟩
  have hcap := hedge (spanBase s.par + capBytes s.par) fun hs => (mem_windowEdges _).2 ⟨.inr (.inl rfl), hs⟩
  refine ⟨e, he, by simp [allowed, allowedBy, hinner, hmid, houter], ?_⟩
  have hvalid : e < spanBase s.par + capBytes s.par ↔ a < spanBase s.par + capBytes s.par := by omega
  simp [inValid, helo, hlo, hvalid]

/-- Settles O11: every address of the span is like an edge, and every edge lies in the span. -/
theorem windowClosedIffAllDenied : Obligations.WindowClosedIffAllDenied := by
  intro s
  simp only [windowClosed, List.all_eq_true, Bool.not_eq_true']
  constructor
  · intro h a ha
    obtain ⟨e, he, hallowed, -⟩ := exists_edge_like ha
    exact hallowed ▸ h e he
  · intro h e he
    exact h e ((mem_windowEdges e).1 he).2

/-- Settles O12: every address of the span is like an edge, and every edge lies in the span. -/
theorem windowOpenIffExactlyValidAllowed : Obligations.WindowOpenIffExactlyValidAllowed := by
  intro s
  simp only [windowOpen, List.all_eq_true, beq_iff_eq, ← Bool.eq_iff_iff]
  constructor
  · intro h a ha
    obtain ⟨e, he, hallowed, hvalid⟩ := exists_edge_like ha
    rw [← hallowed, ← hvalid]
    exact h e he
  · intro h e he
    exact h e ((mem_windowEdges e).1 he).2

end Sys2Proof.Machine
end

section
/-! PROOF. O25: `SR` and the transaction descriptor as views of the state, field by field. -/

namespace Sys2Proof.Machine

/-! ### The status register -/

theorem readSr_eq (s : State) : readSr s = (srWord s (busyReads s), busyRead s) := by
  simp [readSr, readBusy_eq]

/-- A bit of the `SR` word: the fields lie one behind the other (10_state.md R32). -/
theorem getLsbD_srWord (s : State) (busy : Bool) (i : Nat) :
    (srWord s busy).getLsbD i
      = if i < 1 then false else if i - 1 < 1 then (BitVec.ofBool s.tcf).getLsbD (i - 1)
        else if i - 1 - 1 < 1 then (BitVec.ofBool (srFtf s)).getLsbD (i - 1 - 1) else if i - 1 - 1 - 1 < 2 then false
        else if i - 1 - 1 - 1 - 2 < 1 then (BitVec.ofBool busy).getLsbD (i - 1 - 1 - 1 - 2)
        else if i - 1 - 1 - 1 - 2 - 1 < 2 then false
        else if i - 1 - 1 - 1 - 2 - 1 - 2 < 6 then (BitVec.ofNat 6 (fifoLevel s)).getLsbD (i - 1 - 1 - 1 - 2 - 1 - 2)
        else false := by
  simp only [srWord, BitVec.getLsbD_append, BitVec.ofNat_eq_ofNat, BitVec.getLsbD_zero]

theorem srWord_tcf (s : State) (busy : Bool) : (srWord s busy).getLsbD 1 = s.tcf :=
  (getLsbD_srWord s busy 1).trans (by cases s.tcf <;> rfl)

theorem srWord_ftf (s : State) (busy : Bool) : (srWord s busy).getLsbD 2 = srFtf s :=
  (getLsbD_srWord s busy 2).trans (by cases srFtf s <;> rfl)

theorem srWord_busy (s : State) (busy : Bool) : (srWord s busy).getLsbD 5 = busy :=
  (getLsbD_srWord s busy 5).trans (by cases busy <;> rfl)

theorem srWord_flevel (s : State) (busy : Bool) : (srWord s busy).extractLsb' 8 6 = BitVec.ofNat 6 (fifoLevel s) := by
  apply BitVec.eq_of_getLsbD_eq
  intro i hi
  rw [BitVec.getLsbD_extractLsb', getLsbD_srWord]
  interval_cases i <;> simp

/-- Every other bit of `SR` is 0. -/
theorem srWord_reserved (s : State) (busy : Bool) : srWord s busy &&& 0xFFFFC0D9 = 0 := by
  apply BitVec.eq_of_getLsbD_eq
  intro i hi
  rw [BitVec.getLsbD_and, getLsbD_srWord]
  interval_cases i <;> simp

theorem srFtf_read (s : State) (h : s.ccr ≠ 0) (hm : ccrFm s.ccr = 0b01) : srFtf s = true ↔ 4 ≤ s.fifo.length := by
  rw [srFtf, if_neg (by simpa using h), if_pos (by simp [hm])]
  exact decide_eq_true_iff

theorem srFtf_write (s : State) (h : s.ccr ≠ 0) (hm : ccrFm s.ccr = 0b00) :
    srFtf s = true ↔ 4 ≤ s.par.fifoDepth - s.fifo.length := by
  rw [srFtf, if_neg (by simpa using h), if_neg (by simp [hm]), if_pos (by simp [hm])]
  exact decide_eq_true_iff

theorem srFtf_other (s : State) (h : s.ccr = 0 ∨ ccrFm s.ccr = 0b10 ∨ ccrFm s.ccr = 0b11) : srFtf s = false := by
  rcases h with h | h | h <;> simp [srFtf, h]

/-! ### The transaction descriptor -/

/-- The Instr lines do not depend on which registers give the address. -/
theorem shape_ilines (s : State) : s.shape.ilines = (linesOf (s.ccr.extractLsb' 8 2)).getD .one := by
  unfold State.shape
  split <;> rfl

theorem shape_dummy (s : State) : s.shape.dummy = (s.ccr.extractLsb' 18 5).toNat := by
  unfold State.shape
  split <;> rfl

/-- The descriptor of a mode word given by its fields (10_state.md R27). -/
theorem td_tmwPack (s : State) (fm dl : BitVec 2) (dc : BitVec 5) (abl sz al : BitVec 2) (il : Lines) (o : Byte)
    (h : s.ccr = tmwPack fm dl dc abl sz al (lineCode il) o) :
    s.td = ⟨o, il, al != 0b00, linesOf al, asizeOfBit (sz.getLsbD 0), s.ar, linesOf abl, dc.toNat, linesOf dl,
      if dl == 0b00 then .none else if fm == 0b00 then .write else .read, if dl == 0b00 then 0 else s.dlr.toNat + 1⟩ := by
  simp only [State.td, shape_ilines, shape_dummy, h, tmwPack_opcode, tmwPack_il, tmwPack_abl, tmwPack_dummy, tmwPack_size,
    ccrFm_tmwPack, ccrAl_tmwPack, ccrDl_tmwPack, linesOf_lineCode, Option.getD_some]

theorem td_rdid (s : State) :
    State.td { s with ccr := tmwRdidWord, ar := 0, dlr := 7 }
      = ⟨0x9F, .one, true, some .one, .a24, 0, none, 0, some .one, .read, 8⟩ :=
  td_tmwPack _ 0b01 0b01 0 0b00 0b10 0b01 .one 0x9F rfl

theorem td_cmd (s : State) (o : Byte) (n : Lines) :
    State.td { s with ccr := tmwOfCmd o n } = ⟨o, n, false, none, .a24, s.ar, none, 0, none, .none, 0⟩ :=
  td_tmwPack _ 0b00 0b00 0 0b00 0b00 0b00 n o rfl

theorem td_wr1 (s : State) (o : Byte) :
    State.td { s with ccr := tmwOfWr1 o, dlr := 1 } = ⟨o, .one, false, none, .a24, s.ar, none, 0, some .one, .write, 2⟩ :=
  td_tmwPack _ 0b00 0b01 0 0b00 0b00 0b00 .one o rfl

theorem td_wra (s : State) (o : Byte) (n : Lines) (a len : Word) :
    State.td { s with ccr := tmwOfWra s.par o n a len, ar := a, dlr := if len = 0 then s.dlr else len - 1 }
      = ⟨o, ciLines s.par n, true, some n, asizeOf a.toNat, a, none, 0, if len = 0 then none else some n,
        if len = 0 then .none else .write, len.toNat⟩ := by
  rw [td_tmwPack _ 0b00 (if len == 0 then 0b00 else lineCode n) 0 0b00 (asizeCode (asizeOf a.toNat)) (lineCode n) (ciLines s.par n) o
    rfl, asizeOfBit_asizeCode, linesOf_lineCode]
  by_cases h : len = 0
  · subst h
    cases n <;> rfl
  · have hdl : (if len == 0 then 0b00 else lineCode n) = lineCode n := if_neg (by simpa using h)
    simp only [hdl, if_neg h]
    rw [← toNat_pred h]
    cases n <;> rfl

theorem td_rd1 (s : State) (o : Byte) (len : Word) (h : len ≠ 0) :
    State.td { s with ccr := tmwOfRd1 o, dlr := len - 1 }
      = ⟨o, .one, false, none, .a24, s.ar, none, 0, some .one, .read, len.toNat⟩ := by
  rw [td_tmwPack _ 0b01 0b01 0 0b00 0b00 0b00 .one o rfl, ← toNat_pred h]
  rfl

theorem td_rda (s : State) (o : Byte) (n : Lines) (a len : Word) (h : len ≠ 0) :
    State.td { s with ccr := tmwOfRda s.par o n a, ar := a, dlr := len - 1 }
      = ⟨o, ciLines s.par n, true, some n, asizeOf a.toNat, a, if n = .four ∧ s.par.altEn = true then some .four else none,
        if n = .four then 6 else 0, some n, .read, len.toNat⟩ := by
  cases n with
  | one =>
    rw [td_tmwPack _ 0b01 0b01 0 0b00 (asizeCode (asizeOf a.toNat)) 0b01 .one o rfl, asizeOfBit_asizeCode, ← toNat_pred h]
    rfl
  | four =>
    rw [td_tmwPack _ 0b01 0b11 Config.dummyQuadRead (altCode s.par) (asizeCode (asizeOf a.toNat)) 0b11 (ciLines s.par .four) o rfl,
      asizeOfBit_asizeCode, ← toNat_pred h]
    cases halt : s.par.altEn <;> simp [altCode, halt, linesOf]

/-- Settles O25: the fields of the `SR` word, and the fields of each primitive's mode word. -/
theorem statusAndDescriptorAreViews : Obligations.StatusAndDescriptorAreViews := by
  constructor
  · intro s
    rw [readSr_eq]
    refine ⟨rfl, srWord_tcf s _, srWord_ftf s _, srWord_busy s _, fun hlt => ?_, srWord_reserved s _, srFtf_read s, srFtf_write s,
      srFtf_other s⟩
    rw [srWord_flevel, BitVec.toNat_ofNat, fifoLevel]
    exact Nat.mod_eq_of_lt hlt
  · intro s o n a len
    exact ⟨td_rdid s, td_cmd s o n, td_wr1 s o, td_wra s o n a len, fun h => ⟨td_rd1 s o len h, td_rda s o n a len h⟩⟩

end Sys2Proof.Machine
end

section
/-! PROOF. O18: the RGN and CFG rows, and the words with `ENABLE`, `EN` or `CSAR` 0, which are no rows. The words of 30_encoding.md R122 and
10_state.md R30, R31 are the model's packed words; a word without its enabling bit is read as no row and then loaded as it stands. -/

namespace Sys2Proof

/-! ### Words and their bits -/

/-- A word is read back from its four bytes. -/
theorem wordAt_leBytes (w : Word) : wordAt (leBytes w) 0 = w := by
  have hhigh : w.extractLsb' 24 8 ++ w.extractLsb' 16 8 = w.extractLsb' 16 16 :=
    BitVec.extractLsb'_append_extractLsb'_eq_extractLsb' (show 24 = 16 + 8 from rfl)
  have hmid : w.extractLsb' 16 16 ++ w.extractLsb' 8 8 = w.extractLsb' 8 24 :=
    BitVec.extractLsb'_append_extractLsb'_eq_extractLsb' (show 16 = 8 + 8 from rfl)
  have hlow : w.extractLsb' 8 24 ++ w.extractLsb' 0 8 = w.extractLsb' 0 32 :=
    BitVec.extractLsb'_append_extractLsb'_eq_extractLsb' (show 8 = 0 + 8 from rfl)
  calc wordAt (leBytes w) 0
      = w.extractLsb' 24 8 ++ w.extractLsb' 16 8 ++ w.extractLsb' 8 8 ++ w.extractLsb' 0 8 := rfl
    _ = w.extractLsb' 16 16 ++ w.extractLsb' 8 8 ++ w.extractLsb' 0 8 := by rw [hhigh]
    _ = w.extractLsb' 8 24 ++ w.extractLsb' 0 8 := by rw [hmid]
    _ = w := by rw [hlow, BitVec.extractLsb'_eq_self]

/-- A word that lacks a bit of a row's pattern is not of that row. -/
theorem and_ne_of_getLsbD {w mask pattern : Word} (i : Nat) (hw : w.getLsbD i = false) (hp : pattern.getLsbD i = true) :
    w &&& mask ≠ pattern := by
  intro h
  have hbit : (w &&& mask).getLsbD i = pattern.getLsbD i := by rw [h]
  simp [hw, hp] at hbit

/-! ### The packed words are the spec's -/

/-- `SRD` lies over the fixed bits `v` of a size class (30_encoding.md R122). -/
theorem or_srd_eq_attrPack (m : Byte) {c : BitVec 5} {e : Bool} {v : Nat} (hv : (v : Word) = attrPack 0 c e) :
    (v : Word) ||| (m.setWidth 32 <<< 8) = attrPack m c e := by
  rw [hv]
  apply BitVec.eq_of_getLsbD_eq
  intro i hi
  simp only [attrPack, BitVec.getLsbD_or, BitVec.getLsbD_append]
  interval_cases i <;> simp

theorem crPack_eq (pre : Byte) (ss : Bool) :
    crPack pre ss false = (pre.setWidth 32 <<< 24) ||| 0x00000300 ||| (if ss then 0x10 else 0) ||| 0x00000001 := by
  apply BitVec.eq_of_getLsbD_eq
  intro i hi
  simp only [crPack, BitVec.getLsbD_or, BitVec.getLsbD_append]
  cases ss <;> interval_cases i <;> simp

theorem dcrPack_eq (fs : BitVec 5) (ht : BitVec 3) :
    dcrPack fs ht = (fs.setWidth 32 <<< 16) ||| (ht.setWidth 32 <<< 8) ||| 0x00000002 := by
  apply BitVec.eq_of_getLsbD_eq
  intro i hi
  simp only [dcrPack, BitVec.getLsbD_or, BitVec.getLsbD_append]
  interval_cases i <;> simp

/-! ### What is read as no row -/

/-- An attribute word with `ENABLE` 0 is no RGN row. -/
theorem decode_attr_disabled {w : Word} (h : w.getLsbD 0 = false) : decode ⟨.rgn, leBytes w⟩ = .error (.unlistedAttr w) := by
  have houter : w &&& 0xFFFF00FF ≠ 0x10000037 := and_ne_of_getLsbD 0 h rfl
  have hmid : w &&& 0xFFFF00FF ≠ 0x10000031 := and_ne_of_getLsbD 0 h rfl
  have hinner : w &&& 0xFFFF00FF ≠ 0x1000002F := and_ne_of_getLsbD 0 h rfl
  simp only [decode, decodeRgn, wordAt_leBytes, beq_iff_eq, houter, hmid, hinner, if_false]

/-- A word with `EN` 0 is no CR row, one with `CSAR` 0 no DCR row; the reserved bits it does not set say whose word it is. -/
theorem decode_cfg_unlisted {w : Word} (hen : w.getLsbD 0 = false) (hcsar : w.getLsbD 1 = false) :
    decode ⟨.cfg, leBytes w⟩
      = if w &&& dcrReserved = 0 then .error (.unlistedDcr w) else if w &&& crReserved = 0 then .error (.unlistedCr w)
        else .error .reservedRegisterBit := by
  have hcr : w &&& 0x00FFFFEF ≠ 0x00000301 := and_ne_of_getLsbD 0 hen rfl
  have hdcr : w &&& 0xFFE0F8FF ≠ 0x00000002 := and_ne_of_getLsbD 1 hcsar rfl
  simp only [decode, decodeCfg, wordAt_leBytes, beq_iff_eq, hcr, hdcr, if_false]

/-- A `CR` word with `EN` 0 and `SSHIFT` 1, which has no place in `DCR`. -/
theorem decode_cr_disabled (pre : Byte) :
    decode ⟨.cfg, leBytes ((pre.setWidth 32 <<< 24) ||| 0x00000310)⟩
      = .error (.unlistedCr ((pre.setWidth 32 <<< 24) ||| 0x00000310)) := by
  have hdcr : ((pre.setWidth 32 <<< 24) ||| 0x00000310) &&& dcrReserved ≠ 0 := by
    intro h
    have hbit := congrArg (·.getLsbD 4) h
    simp [dcrReserved] at hbit
  have hcr : ((pre.setWidth 32 <<< 24) ||| 0x00000310) &&& crReserved = 0 := by
    apply BitVec.eq_of_getLsbD_eq
    intro i hi
    simp only [crReserved, BitVec.getLsbD_and, BitVec.getLsbD_or]
    interval_cases i <;> simp
  rw [decode_cfg_unlisted (by simp) (by simp), if_neg hdcr, if_pos hcr]

theorem decode_dcr_disabled (fs : BitVec 5) (ht : BitVec 3) :
    decode ⟨.cfg, leBytes ((fs.setWidth 32 <<< 16) ||| (ht.setWidth 32 <<< 8))⟩
      = .error (.unlistedDcr ((fs.setWidth 32 <<< 16) ||| (ht.setWidth 32 <<< 8))) := by
  have hdcr : ((fs.setWidth 32 <<< 16) ||| (ht.setWidth 32 <<< 8)) &&& dcrReserved = 0 := by
    apply BitVec.eq_of_getLsbD_eq
    intro i hi
    simp only [dcrReserved, BitVec.getLsbD_and, BitVec.getLsbD_or]
    interval_cases i <;> simp
  rw [decode_cfg_unlisted (by simp) (by simp), if_pos hdcr]

end Sys2Proof

namespace Sys2Proof.Machine

/-! ### What the words load -/

/-- `ENABLE` is the lowest bit. -/
theorem attrPack_enable (m : Byte) (c : BitVec 5) (e : Bool) : (attrPack m c e).getLsbD 0 = e := by
  simp only [attrPack, BitVec.getLsbD_append]
  simp

/-- The descriptor of a packed attribute word has the word's fields. -/
theorem rgnOfAttr_attrPack (p : Params) (m : Byte) (c : BitVec 5) (e : Bool) :
    rgnOfAttr p (attrPack m c e) = ⟨e, p.windowBase, c, m⟩ := by
  have hsize : (attrPack m c e).extractLsb' 1 5 = c := by
    apply BitVec.eq_of_getLsbD_eq
    intro i hi
    simp only [attrPack, BitVec.getLsbD_extractLsb', BitVec.getLsbD_append]
    interval_cases i <;> simp
  have hsrd : (attrPack m c e).extractLsb' 8 8 = m := by
    apply BitVec.eq_of_getLsbD_eq
    intro i hi
    simp only [attrPack, BitVec.getLsbD_extractLsb', BitVec.getLsbD_append]
    interval_cases i <;> simp
  rw [rgnOfAttr, attrPack_enable, hsize, hsrd]

/-- A packed attribute word sets no reserved bit and has the permission NoAccess. -/
theorem attrPack_legal (m : Byte) (c : BitVec 5) (e : Bool) :
    attrPack m c e &&& 0xE8FF00C0 = 0 ∧ attrPack m c e &&& 0x07000000 = 0 := by
  constructor
  all_goals
    apply BitVec.eq_of_getLsbD_eq
    intro i hi
    simp only [attrPack, BitVec.getLsbD_and, BitVec.getLsbD_append]
    interval_cases i <;> simp

/-- A packed attribute word loads the slot of its size class, as the row of that slot does. -/
theorem loadAttr_attrPack (m : Byte) (c : BitVec 5) (e : Bool) (s : State) :
    loadAttr (attrPack m c e) s
      = if c = 27 then loadOuter ⟨e, s.par.windowBase, c, m⟩ s else if c = 24 then loadMid ⟨e, s.par.windowBase, c, m⟩ s
        else if c = 23 then loadInner ⟨e, s.par.windowBase, c, m⟩ s else raise (.unsupported .descriptorWord) s := by
  obtain ⟨hreserved, hperm⟩ := attrPack_legal m c e
  simp only [loadAttr, rgnOfAttr_attrPack, hreserved, hperm, bne_self_eq_false, Bool.false_eq_true, if_false, beq_iff_eq]
  rfl

/-- A word that requests no abort and no timeout counter is held in `CR` as it stands. -/
theorem writeUnlistedCr_eq_loadCr {w : Word} (habort : w.getLsbD 1 = false) (htcen : w.getLsbD 3 = false) (s : State) :
    writeUnlistedCr w s = loadCr w s := by
  have hno : crAbort (loadCr w s).cr = false := habort
  simp only [writeUnlistedCr, finishAbort, htcen, hno, Bool.false_eq_true, if_false]

/-! ### The steps of the words that are no rows -/

section Steps

variable {s : State} (rest : List Input) (h : s.fault = none)
include h

/-- `step_unlisted`, for a presentation put before `rest`. -/
theorem step_cons_unlisted {x : Input} {e : DecodeError} (hd : decode x = .error e) :
    step { s with inputs := x :: rest } = .next (presentUnlisted e { s with inputs := rest }) :=
  step_unlisted { s with inputs := x :: rest } x rest e h rfl hd

theorem step_attr_disabled (m : Byte) (c : BitVec 5) :
    step { s with inputs := ⟨.rgn, leBytes (attrPack m c false)⟩ :: rest }
      = .next (if c = 27 then loadOuter ⟨false, s.par.windowBase, c, m⟩ { s with inputs := rest }
        else if c = 24 then loadMid ⟨false, s.par.windowBase, c, m⟩ { s with inputs := rest }
        else if c = 23 then loadInner ⟨false, s.par.windowBase, c, m⟩ { s with inputs := rest }
        else raise (.unsupported .descriptorWord) { s with inputs := rest }) := by
  rw [step_cons_unlisted rest h (decode_attr_disabled (attrPack_enable m c false))]
  exact congrArg _ (loadAttr_attrPack m c false _)

theorem step_cr_disabled (pre : Byte) :
    step { s with inputs := ⟨.cfg, leBytes ((pre.setWidth 32 <<< 24) ||| 0x00000310)⟩ :: rest }
      = .next (loadCr ((pre.setWidth 32 <<< 24) ||| 0x00000310) { s with inputs := rest }) := by
  rw [step_cons_unlisted rest h (decode_cr_disabled pre)]
  exact congrArg _ (writeUnlistedCr_eq_loadCr (by simp) (by simp) _)

theorem step_dcr_disabled (fs : BitVec 5) (ht : BitVec 3) :
    step { s with inputs := ⟨.cfg, leBytes ((fs.setWidth 32 <<< 16) ||| (ht.setWidth 32 <<< 8))⟩ :: rest }
      = .next (loadDcr ((fs.setWidth 32 <<< 16) ||| (ht.setWidth 32 <<< 8)) { s with inputs := rest }) :=
  step_cons_unlisted rest h (decode_dcr_disabled fs ht)

end Steps

/-- Settles O18: the spec's words are the packed words; a row loads its word, and a word with `ENABLE`, `EN` or `CSAR` 0 is loaded as a
row's would be. -/
theorem registerRowsLoadOneRegister : Obligations.RegisterRowsLoadOneRegister := by
  intro s m pre ss fs ht rest h
  rw [or_srd_eq_attrPack (c := 27) (e := true) m rfl, or_srd_eq_attrPack (c := 24) (e := true) m rfl,
    or_srd_eq_attrPack (c := 23) (e := true) m rfl, or_srd_eq_attrPack (c := 27) (e := false) m rfl,
    or_srd_eq_attrPack (c := 24) (e := false) m rfl, or_srd_eq_attrPack (c := 23) (e := false) m rfl, ← crPack_eq, ← dcrPack_eq]
  exact ⟨exec_of_none _ s h, exec_of_none _ s h, exec_of_none _ s h, exec_of_none _ s h, exec_of_none _ s h,
    step_attr_disabled rest h m 27, step_attr_disabled rest h m 24, step_attr_disabled rest h m 23,
    step_cr_disabled rest h pre, step_dcr_disabled rest h fs ht⟩

end Sys2Proof.Machine
end

section
/-! PROOF. Mode words by their fields (30_encoding.md R111): a packed word as a sum, under a mask, and compared with a word written out;
what the decoder reads from it; the codes of its fields (R113, R114). -/

namespace Sys2Proof.Machine

section ModeWord

variable (fm dl : BitVec 2) (dc : BitVec 5) (abl sz al il : BitVec 2) (o : Byte)

@[simp] theorem tmwPack_sz : (tmwPack fm dl dc abl sz al il o).extractLsb' 12 2 = sz :=
  extractLsb'_two _ _ _ (getLsbD_tmwPack ..) (getLsbD_tmwPack ..)

/-- A mode word is the sum of its fields, each shifted to its place (30_encoding.md R111). -/
theorem tmwPack_eq_or :
    tmwPack fm dl dc abl sz al il o
      = o.setWidth 32 ||| (il.setWidth 32 <<< 8) ||| (al.setWidth 32 <<< 10) ||| (sz.setWidth 32 <<< 12) ||| (abl.setWidth 32 <<< 14)
        ||| (dc.setWidth 32 <<< 18) ||| (dl.setWidth 32 <<< 24) ||| (fm.setWidth 32 <<< 26) := by
  apply BitVec.eq_of_getLsbD_eq
  intro i hi
  simp only [getLsbD_tmwPack, BitVec.getLsbD_or]
  interval_cases i <;> simp

/-- A mask selects from every field; the bits outside the fields are 0. -/
theorem tmwPack_and (m : Word) :
    tmwPack fm dl dc abl sz al il o &&& m
      = tmwPack (fm &&& m.extractLsb' 26 2) (dl &&& m.extractLsb' 24 2) (dc &&& m.extractLsb' 18 5) (abl &&& m.extractLsb' 14 2)
          (sz &&& m.extractLsb' 12 2) (al &&& m.extractLsb' 10 2) (il &&& m.extractLsb' 8 2) (o &&& m.extractLsb' 0 8) := by
  apply BitVec.eq_of_getLsbD_eq
  intro i hi
  simp only [BitVec.getLsbD_and, getLsbD_tmwPack, BitVec.getLsbD_extractLsb']
  interval_cases i <;> simp

/-- A word without its reserved bits is the sum of its fields. -/
theorem tmwPack_extract (w : Word) :
    tmwPack (w.extractLsb' 26 2) (w.extractLsb' 24 2) (w.extractLsb' 18 5) (w.extractLsb' 14 2) (w.extractLsb' 12 2) (w.extractLsb' 10 2)
      (w.extractLsb' 8 2) (w.extractLsb' 0 8) = w &&& 0x0F7CFFFF := by
  apply BitVec.eq_of_getLsbD_eq
  intro i hi
  simp only [BitVec.getLsbD_and, getLsbD_tmwPack, BitVec.getLsbD_extractLsb']
  interval_cases i <;> simp

/-- A word is the packed one when it has no reserved bit and the same fields. -/
theorem tmwPack_eq_iff (w : Word) :
    tmwPack fm dl dc abl sz al il o = w
      ↔ w &&& 0x0F7CFFFF = w ∧ fm = w.extractLsb' 26 2 ∧ dl = w.extractLsb' 24 2 ∧ dc = w.extractLsb' 18 5
        ∧ abl = w.extractLsb' 14 2 ∧ sz = w.extractLsb' 12 2 ∧ al = w.extractLsb' 10 2 ∧ il = w.extractLsb' 8 2 ∧ o = w.extractLsb' 0 8 := by
  constructor
  · rintro rfl
    rw [← tmwPack_extract]
    simp
  · rintro ⟨h, rfl, rfl, rfl, rfl, rfl, rfl, rfl, rfl⟩
    rw [tmwPack_extract, h]

/-! ### What the decoder reads from a packed word -/

@[simp] theorem tmwOpc_tmwPack : tmwOpc (tmwPack fm dl dc abl sz al il o) = o := tmwPack_opcode ..

@[simp] theorem tmwIl_tmwPack : tmwIl (tmwPack fm dl dc abl sz al il o) = linesOfBit (il.getLsbD 1) :=
  congrArg linesOfBit (getLsbD_tmwPack ..)

@[simp] theorem tmwAl_tmwPack : tmwAl (tmwPack fm dl dc abl sz al il o) = linesOfBit (al.getLsbD 1) :=
  congrArg linesOfBit (getLsbD_tmwPack ..)

@[simp] theorem tmwSz_tmwPack : tmwSz (tmwPack fm dl dc abl sz al il o) = asizeOfBit (sz.getLsbD 0) :=
  congrArg asizeOfBit (getLsbD_tmwPack ..)

@[simp] theorem tmwDl_tmwPack : tmwDl (tmwPack fm dl dc abl sz al il o) = linesOfBit (dl.getLsbD 1) :=
  congrArg linesOfBit (getLsbD_tmwPack ..)

@[simp] theorem tmwAbl_tmwPack : tmwAbl (tmwPack fm dl dc abl sz al il o) = phaseLines abl := by
  have h0 : (tmwPack fm dl dc abl sz al il o).getLsbD 14 = abl.getLsbD 0 := getLsbD_tmwPack ..
  have h1 : (tmwPack fm dl dc abl sz al il o).getLsbD 15 = abl.getLsbD 1 := getLsbD_tmwPack ..
  rw [tmwAbl, phaseLines, h0, h1]

end ModeWord

/-! ### Codes -/

@[simp] theorem linesOfBit_lineCode (n : Lines) : linesOfBit (lineCode n)[1] = n := by
  cases n <;> rfl

@[simp] theorem asizeOfBit_asizeCode_bit (z : ASize) : asizeOfBit (asizeCode z)[0] = z := asizeOfBit_asizeCode z

@[simp] theorem linesOfBit_four (n : Lines) : linesOfBit (n == .four) = n := by
  cases n <;> rfl

@[simp] theorem phaseLines_lineCodeOpt (n : Option Lines) : phaseLines (lineCodeOpt n) = n := by
  rcases n with _ | _ | _ <;> rfl

@[simp] theorem lineCode_and_one (n : Lines) : lineCode n &&& 1#2 = 1#2 := by
  cases n <;> rfl

@[simp] theorem lineCode_ne_zero (n : Lines) : lineCode n ≠ 0#2 := by
  cases n <;> decide

@[simp] theorem asizeCode_and_two (z : ASize) : asizeCode z &&& 2#2 = 2#2 := by
  cases z <;> rfl

@[simp] theorem asizeCode_ne_zero (z : ASize) : asizeCode z ≠ 0#2 := by
  cases z <;> decide

@[simp] theorem asizeCode_eq_two_iff (z : ASize) : asizeCode z = 2#2 ↔ z = .a24 := by
  cases z <;> decide

/-- A mask over all of a code. -/
@[simp] theorem code_and_three (c : BitVec 2) : c &&& 3#2 = c := BitVec.and_allOnes

end Sys2Proof.Machine
end

section
/-! PROOF. O1 and O2: the decoder reads back what the encoder writes, one port after the other. For each port: the fields of its bytes, then
its rows. -/

namespace Sys2Proof.Machine

/-! ### The command port -/

section CommandPort

variable (sel o : Byte) (n : Lines) (a len p : Word)

theorem opBytes_selector : byteAt (opBytes sel o n a len p) 0 = sel := rfl

theorem opBytes_opcode : byteAt (opBytes sel o n a len p) 1 = o := rfl

theorem opBytes_lines : linesOfBit ((byteAt (opBytes sel o n a len p) 2).getLsbD 0) = n := by
  cases n <;> simp [opBytes, byteAt, linesOfBit]

theorem opBytes_address : wordAt (opBytes sel o n a len p) 3 = a := wordAt_leBytes a

theorem opBytes_length : wordAt (opBytes sel o n a len p) 7 = len := wordAt_leBytes len

theorem opBytes_pointer : wordAt (opBytes sel o n a len p) 11 = p := wordAt_leBytes p

end CommandPort

/-- A host operation and its operands are read back (30_encoding.md R126, R127). -/
theorem decode_encode_op (i : Instr) (h : (encode i).port = .op) : decode (encode i) = .ok i := by
  cases i
  case cmd | wr1 | wra | rd1 | rda | read | write =>
    simp only [encode, decode, decodeOp, opBytes_selector, opBytes_opcode, opBytes_lines, opBytes_address, opBytes_length,
      opBytes_pointer]
    rfl
  case configure | denyAll | allowMapped | rdid | mmapCfg | abort | initialise | acquire | release | init => rfl
  case reserved0E | reserved0F | reserved13 | reserved14 | reserved15 | reserved16 | reserved17 | reserved18 | reserved19 | reserved1A
      | reserved1B | reserved1C | reserved1D | reserved1E | reserved1F =>
    rfl
  all_goals cases h

/-! ### The CPU window port -/

section CpuPort

variable (kind : Byte) (k : CpuSize) (a v : Word)

theorem cpuBytes_kind : byteAt (cpuBytes kind k a v) 0 = kind := rfl

theorem cpuBytes_size : cpuSizeOf (byteAt (cpuBytes kind k a v) 1) = k := by
  cases k <;> simp [cpuBytes, byteAt, cpuSizeOf]

theorem cpuBytes_address : wordAt (cpuBytes kind k a v) 2 = a := wordAt_leBytes a

theorem cpuBytes_value : wordAt (cpuBytes kind k a v) 6 = v := wordAt_leBytes v

end CpuPort

/-- A CPU access, its size, address and value are read back (30_encoding.md R126). -/
theorem decode_encode_cpu (i : Instr) (h : (encode i).port = .cpu) : decode (encode i) = .ok i := by
  cases i
  case cpuLoad | cpuStore | cpuFetch | cpuSpec =>
    simp only [encode, decode, decodeCpu, cpuBytes_kind, cpuBytes_size, cpuBytes_address, cpuBytes_value]
    rfl
  all_goals cases h

/-! ### The mode-word port -/

/-- No row's word is reserved (30_encoding.md R132). -/
theorem reservedTmw_encode (i : Instr) (h : (encode i).port = .tmw) : reservedTmw (wordAt (encode i).bytes 0) = false := by
  cases i <;> simp only [encode, tmwInput, wordAt_leBytes]
  case tmwRdid => exact reservedTmw_rdid
  case tmwCmd o il => exact reservedTmw_cmd o il
  case tmwWr1 o => exact reservedTmw_wr1 o
  case tmwWra o il al sz dl => exact reservedTmw_wraWord o il al sz _ (lineCode_legal dl).1
  case tmwWra0 o il al sz => exact reservedTmw_wraWord o il al sz _ rfl
  case tmwRd1 o => exact reservedTmw_rd1 o
  case tmwRda4 o il sz abl => exact reservedTmw_quadRead _ rfl _ _ (lineCodeOpt_legal abl) sz il o
  case tmwRda1 o sz => exact reservedTmw_rda1 o sz
  case tmwMmapCfg il sz abl => exact reservedTmw_quadRead _ rfl _ _ (lineCodeOpt_legal abl) sz il _
  all_goals cases h

/-- A mode word is read back: the masks of the table's rows become tests of the fields, of which every row before the word's own fails one
(30_encoding.md R128). Only RDID's word lies in a later row, and that term is not well formed. -/
theorem decode_encode_tmw (i : Instr) (hw : WellFormed i = true) (h : (encode i).port = .tmw) : decode (encode i) = .ok i := by
  have hres := reservedTmw_encode i h
  cases i
  case tmwRdid => rfl
  case tmwRda1 o sz =>
    have hrdid : ¬(sz = .a24 ∧ o = 0x9F#8) := by
      rintro ⟨rfl, rfl⟩
      exact absurd hw (by decide)
    simp only [encode, tmwInput, wordAt_leBytes] at hres
    simp only [encode, decode, tmwInput, decodeTmw, wordAt_leBytes, hres, Bool.false_eq_true, if_false]
    simp [tmwPack_and, tmwPack_eq_iff, hrdid]
  case tmwCmd | tmwWr1 | tmwWra | tmwWra0 | tmwRd1 | tmwRda4 | tmwMmapCfg =>
    simp only [encode, tmwInput, wordAt_leBytes] at hres
    simp only [encode, decode, tmwInput, decodeTmw, wordAt_leBytes, hres, Bool.false_eq_true, if_false]
    simp [tmwPack_and, tmwPack_eq_iff]
  all_goals cases h

/-! ### The descriptor and configuration ports -/

/-- `SRD` is the second byte of an attribute word (30_encoding.md R121). -/
theorem attrPack_srd (m : Byte) (c : BitVec 5) (e : Bool) : byteAt (leBytes (attrPack m c e)) 1 = m :=
  congrArg Rgn.srd (rgnOfAttr_attrPack Params.atReset m c e)

/-- An attribute word without its `SRD`. -/
theorem attrPack_fixed (m : Byte) (c : BitVec 5) (e : Bool) : attrPack m c e &&& 0xFFFF00FF = attrPack 0 c e := by
  apply BitVec.eq_of_getLsbD_eq
  intro i hi
  simp only [attrPack, BitVec.getLsbD_and, BitVec.getLsbD_append]
  interval_cases i <;> simp

/-- A descriptor's size class and mask are read back (30_encoding.md R122). -/
theorem decode_encode_rgn (i : Instr) (h : (encode i).port = .rgn) : decode (encode i) = .ok i := by
  cases i
  case rgnAttrOuter | rgnAttrMid | rgnAttrInner =>
    simp only [encode, decode, decodeRgn, wordAt_leBytes, attrPack_fixed, attrPack_srd]
    rfl
  all_goals cases h

/-- The fields of a `CR` word and its fixed bits (10_state.md R30). -/
theorem crPack_fields (pre : Byte) (ss : Bool) :
    crPack pre ss false &&& 0x00FFFFEF = 0x00000301 ∧ (crPack pre ss false).extractLsb' 24 8 = pre
      ∧ (crPack pre ss false).getLsbD 4 = ss := by
  refine ⟨?fixed, ?prescaler, ?sshift⟩
  case fixed =>
    apply BitVec.eq_of_getLsbD_eq
    intro i hi
    simp only [crPack, BitVec.getLsbD_and, BitVec.getLsbD_append]
    interval_cases i <;> simp
  case prescaler =>
    apply BitVec.eq_of_getLsbD_eq
    intro i hi
    simp only [crPack, BitVec.getLsbD_extractLsb', BitVec.getLsbD_append]
    interval_cases i <;> simp
  case sshift =>
    simp only [crPack, BitVec.getLsbD_append]
    simp

/-- The fields of a `DCR` word and its fixed bits, and that it is no `CR` word (10_state.md R31). -/
theorem dcrPack_fields (fs : BitVec 5) (ht : BitVec 3) :
    dcrPack fs ht &&& 0x00FFFFEF ≠ 0x00000301 ∧ dcrPack fs ht &&& 0xFFE0F8FF = 0x00000002
      ∧ (dcrPack fs ht).extractLsb' 16 5 = fs ∧ (dcrPack fs ht).extractLsb' 8 3 = ht := by
  refine ⟨?noCr, ?fixed, ?fsize, ?csht⟩
  case noCr =>
    refine and_ne_of_getLsbD 0 ?_ rfl
    simp only [dcrPack, BitVec.getLsbD_append]
    simp
  case fixed =>
    apply BitVec.eq_of_getLsbD_eq
    intro i hi
    simp only [dcrPack, BitVec.getLsbD_and, BitVec.getLsbD_append]
    interval_cases i <;> simp
  all_goals
    apply BitVec.eq_of_getLsbD_eq
    intro i hi
    simp only [dcrPack, BitVec.getLsbD_extractLsb', BitVec.getLsbD_append]
    interval_cases i <;> simp

/-- A configuration word is read back as the register and the fields it is for (10_state.md R30, R31). -/
theorem decode_encode_cfg (i : Instr) (h : (encode i).port = .cfg) : decode (encode i) = .ok i := by
  cases i
  case crLoad pre ss =>
    obtain ⟨hfixed, hpre, hss⟩ := crPack_fields pre ss
    simp only [encode, decode, decodeCfg, wordAt_leBytes, hfixed, hpre, hss, beq_self_eq_true, if_true]
  case dcrLoad fs ht =>
    obtain ⟨hno, hfixed, hfs, hht⟩ := dcrPack_fields fs ht
    simp only [encode, decode, decodeCfg, wordAt_leBytes, beq_iff_eq, hno, hfixed, hfs, hht, if_true, if_false]
  all_goals cases h

/-! ### The device port -/

/-- The lines of a Data phase, none where it is absent. -/
def dataLines (d : FrameData) : Option Lines :=
  match d with
  | .absent => none
  | .read n _ => some n
  | .write n _ => some n

/-- The direction bit of a Data phase. -/
def dataIsRead (d : FrameData) : Bool :=
  match d with
  | .read .. => true
  | _ => false

section DevicePort

variable (o : Byte) (f : FrameArgs)

theorem frameBytes_opcode : byteAt (frameBytes o f) 0 = o := by
  unfold frameBytes
  cases f.data <;> rfl

/-- The shape byte, its fields one behind the other (notes/assumptions/4.md). -/
theorem frameBytes_shape :
    byteAt (frameBytes o f) 1
      = lineCodeOpt (dataLines f.data) ++ lineCodeOpt (f.alt.map AltPhase.lines)
        ++ BitVec.ofBool (f.addr.map AddrPhase.size == some .a32) ++ lineCodeOpt (f.addr.map AddrPhase.lines)
        ++ BitVec.ofBool (f.ilines == .four) := by
  unfold frameBytes
  cases f.data <;> rfl

theorem frameBytes_dummy : byteAt (frameBytes o f) 2 = (BitVec.ofBool (dataIsRead f.data)).setWidth 3 ++ f.dummy := by
  unfold frameBytes
  cases f.data <;> rfl

theorem frameBytes_alt : byteAt (frameBytes o f) 3 = (f.alt.map AltPhase.value).getD 0 := by
  unfold frameBytes
  cases f.data <;> rfl

theorem frameBytes_address : wordAt (frameBytes o f) 4 = (f.addr.map AddrPhase.value).getD 0 := by
  rw [← wordAt_leBytes ((f.addr.map AddrPhase.value).getD 0)]
  unfold frameBytes
  cases f.data <;> rfl

end DevicePort

section ShapeByte

/-- `extractLsb'_two`, at every width. -/
theorem extractLsb'_eq_of_bits {w : Nat} (v : BitVec w) (k : Nat) (c : BitVec 2) (h0 : v.getLsbD k = c.getLsbD 0)
    (h1 : v.getLsbD (k + 1) = c.getLsbD 1) : v.extractLsb' k 2 = c := by
  apply BitVec.eq_of_getLsbD_eq
  intro i hi
  rw [BitVec.getLsbD_extractLsb']
  interval_cases i
  · simpa using h0
  · simpa using h1

variable (d b : BitVec 2) (z : BitVec 1) (a : BitVec 2) (i : BitVec 1)

/-- A bit of a shape byte: the fields lie one behind the other (notes/assumptions/4.md). -/
theorem getLsbD_shape (k : Nat) :
    (d ++ b ++ z ++ a ++ i : Byte).getLsbD k
      = if k < 1 then i.getLsbD k else if k - 1 < 2 then a.getLsbD (k - 1) else if k - 1 - 2 < 1 then z.getLsbD (k - 1 - 2)
        else if k - 1 - 2 - 1 < 2 then b.getLsbD (k - 1 - 2 - 1) else d.getLsbD (k - 1 - 2 - 1 - 2) := by
  simp only [BitVec.getLsbD_append]

theorem shape_ilBit : (d ++ b ++ z ++ a ++ i : Byte).getLsbD 0 = i.getLsbD 0 := getLsbD_shape ..

theorem shape_addr : (d ++ b ++ z ++ a ++ i : Byte).extractLsb' 1 2 = a :=
  extractLsb'_eq_of_bits _ _ _ (getLsbD_shape ..) (getLsbD_shape ..)

theorem shape_sizeBit : (d ++ b ++ z ++ a ++ i : Byte).getLsbD 3 = z.getLsbD 0 := getLsbD_shape ..

theorem shape_alt : (d ++ b ++ z ++ a ++ i : Byte).extractLsb' 4 2 = b :=
  extractLsb'_eq_of_bits _ _ _ (getLsbD_shape ..) (getLsbD_shape ..)

theorem shape_data : (d ++ b ++ z ++ a ++ i : Byte).extractLsb' 6 2 = d :=
  extractLsb'_eq_of_bits _ _ _ (getLsbD_shape ..) (getLsbD_shape ..)

end ShapeByte

section DeviceFrame

variable (o : Byte) (f : FrameArgs)

theorem frameBytes_ilines : linesOfBit ((byteAt (frameBytes o f) 1).getLsbD 0) = f.ilines := by
  rw [frameBytes_shape, shape_ilBit]
  simp

/-- A legal address is sent whole. -/
theorem sentAddress_of_wf {a : AddrPhase} (h : a.wf = true) : sentAddress a.size a.value = a.value := by
  obtain ⟨_, size, v⟩ := a
  cases size with
  | a32 => rfl
  | a24 =>
    have hv : v.toNat < 2 ^ 24 := of_decide_eq_true h
    apply BitVec.eq_of_toNat_eq
    rw [sentAddress, BitVec.toNat_and]
    exact (Nat.and_two_pow_sub_one_eq_mod v.toNat 24).trans (Nat.mod_eq_of_lt hv)

theorem decodeAddr_frameBytes (h : ∀ a ∈ f.addr, a.wf = true) : decodeAddr (frameBytes o f) = f.addr := by
  simp only [decodeAddr, frameBytes_shape, shape_addr, shape_sizeBit, frameBytes_address, phaseLines_lineCodeOpt]
  cases haddr : f.addr with
  | none => rfl
  | some a =>
    have hsize : asizeOfBit ((BitVec.ofBool (some a.size == some .a32)).getLsbD 0) = a.size := by
      cases a.size <;> rfl
    simp only [Option.map_some, Option.getD_some, hsize, sentAddress_of_wf (h a haddr)]

theorem decodeAlt_frameBytes :
    (phaseLines ((byteAt (frameBytes o f) 1).extractLsb' 4 2)).map (fun n => ⟨n, byteAt (frameBytes o f) 3⟩) = f.alt := by
  rw [frameBytes_shape, shape_alt, frameBytes_alt, phaseLines_lineCodeOpt]
  cases f.alt <;> rfl

theorem decodeDummy_frameBytes : (byteAt (frameBytes o f) 2).extractLsb' 0 5 = f.dummy := by
  rw [frameBytes_dummy, BitVec.extractLsb'_append_eq_right]

theorem frameBytes_readBit : (byteAt (frameBytes o f) 2).getLsbD 5 = dataIsRead f.data := by
  rw [frameBytes_dummy, BitVec.getLsbD_append]
  simp

/-- Bytes of a legal number are written as they are. -/
theorem writeData_of_wf {n : Lines} {bytes : List Byte} (h : (FrameData.write n bytes).wf = true) :
    writeData n bytes = .write n bytes := by
  obtain ⟨hpos, hle⟩ : 0 < bytes.length ∧ bytes.length ≤ 2 ^ 32 := by simpa [FrameData.wf] using h
  have hne : bytes.isEmpty = false := by simpa [List.length_pos_iff] using hpos
  rw [writeData, if_neg (by simp [hne]), if_pos hle]

theorem decodeData_frameBytes (h : f.data.wf = true) : decodeData (frameBytes o f) = f.data := by
  simp only [decodeData, frameBytes_shape, shape_data, frameBytes_readBit, phaseLines_lineCodeOpt]
  obtain ⟨il, addr, alt, dummy, data⟩ := f
  cases data with
  | absent => rfl
  | read n last => exact congrArg (FrameData.read n) (wordAt_leBytes last)
  | write n bytes => exact writeData_of_wf h

/-- A legal frame is read back behind its opcode. -/
theorem decodeFrameArgs_frameBytes (h : f.wf = true) : decodeFrameArgs (frameBytes o f) = f := by
  obtain ⟨haddr, hdata⟩ : (∀ a ∈ f.addr, a.wf = true) ∧ f.data.wf = true := by
    unfold FrameArgs.wf at h
    cases ha : f.addr <;> simpa [ha] using h
  simp only [decodeFrameArgs, frameBytes_ilines, decodeAddr_frameBytes o f haddr, decodeAlt_frameBytes, decodeDummy_frameBytes,
    decodeData_frameBytes o f hdata]

end DeviceFrame

/-- A device opcode and its frame are read back (30_encoding.md R118, R130). -/
theorem decode_encode_opc8 (i : Instr) (hw : WellFormed i = true) (h : (encode i).port = .opc8) : decode (encode i) = .ok i := by
  cases i
  case opRead f | opFastRead f | opQuadRead f | opWrite f | opQuadWrite f | opEnterQuad f | opExitQuad f | opResetEnable f | opReset f
      | opSetBurst f | opReadId f =>
    simp only [encode, decode, decodeOpc8, frameBytes_opcode, decodeFrameArgs_frameBytes _ f hw]
    rfl
  all_goals cases h

/-- Settles O1, port by port. -/
theorem decodeEncodeRoundTrip : Obligations.DecodeEncodeRoundTrip := by
  intro i hw
  cases h : (encode i).port with
  | op => exact decode_encode_op i h
  | cpu => exact decode_encode_cpu i h
  | tmw => exact decode_encode_tmw i hw h
  | opc8 => exact decode_encode_opc8 i hw h
  | rgn => exact decode_encode_rgn i h
  | cfg => exact decode_encode_cfg i h

/-- Settles O2: the decoder, run on each word. -/
theorem specWordsDecode : Obligations.SpecWordsDecode :=
  ⟨rfl, rfl, rfl, rfl, rfl, rfl, rfl, rfl, rfl, rfl, rfl⟩

end Sys2Proof.Machine
end

section
/-! PROOF. O22 and O23: the mode words of the primitives (30_encoding.md R128) as the sum of their fields, and the address size they name
(R115, R116). -/

namespace Sys2Proof.Machine

/-! ### Address sizes -/

/-- The size code of a start address (30_encoding.md R114, R115). -/
theorem asizeCode_asizeOf (a : Nat) : asizeCode (asizeOf a) = if 0x01000000 ≤ a then 0b11 else 0b10 := by
  unfold asizeOf
  split <;> rfl

theorem tmwOfWra_asize (p : Params) (o : Byte) (n : Lines) (a len : Word) :
    (tmwOfWra p o n a len).extractLsb' 12 2 = asizeCode (asizeOf a.toNat) :=
  tmwPack_sz ..

theorem tmwOfRda_asize (p : Params) (o : Byte) (n : Lines) (a : Word) :
    (tmwOfRda p o n a).extractLsb' 12 2 = asizeCode (asizeOf a.toNat) := by
  cases n <;> exact tmwPack_sz ..

/-- Settles O22: the size is a threshold on the start address, and each word's size field is that size's code. -/
theorem addressSizeBoundary : Obligations.AddressSizeBoundary := by
  refine ⟨fun _ => rfl, rfl, rfl, fun p o n a len => ?_, rfl, rfl⟩
  rw [tmwOfWra_asize, tmwOfRda_asize, asizeCode_asizeOf]
  exact ⟨rfl, rfl⟩

/-! ### Codes as words -/

theorem lineCode_word (n : Lines) : (lineCode n).setWidth 32 = (match n with
    | .one => 1
    | .four => 3 : Word) := by
  cases n <;> rfl

theorem asizeCode_word (a : Nat) : (asizeCode (asizeOf a)).setWidth 32 = (if 0x01000000 ≤ a then 3 else 2 : Word) := by
  rw [asizeCode_asizeOf]
  split <;> rfl

theorem asizeCode_mapped_word (p : Params) :
    (asizeCode (asizeMapped p)).setWidth 32 = (if 0x01000000 < capBytes p then 3 else 2 : Word) := by
  have h : 0x01000000 ≤ capBytes p - 1 ↔ 0x01000000 < capBytes p := by omega
  simp only [asizeMapped, asizeCode_word, h]

theorem altCode_word (p : Params) : (altCode p).setWidth 32 = (if p.altEn then 3 else 0 : Word) := by
  unfold altCode
  split <;> rfl

theorem ciLines_code_word (p : Params) (n : Lines) : (lineCode (ciLines p n)).setWidth 32 = (match n with
    | .one => 1
    | .four => (match p.quadIlines with
      | .one => 1
      | .four => 3) : Word) := by
  cases n
  · rfl
  · exact lineCode_word p.quadIlines

/-- Settles O23: each word as the sum of its fields, and each field's code as a word. -/
theorem modeWordsOfThePrimitives : Obligations.ModeWordsOfThePrimitives := by
  intro p o n a len w c ci4 ci sz abl mm
  have hw : o.setWidth 32 = w := rfl
  have hc : (lineCode n).setWidth 32 = c := lineCode_word n
  have hci4 : (lineCode (ciLines p .four)).setWidth 32 = ci4 := ciLines_code_word p .four
  have hci : (lineCode (ciLines p n)).setWidth 32 = ci := ciLines_code_word p n
  have hsz : (asizeCode (asizeOf a.toNat)).setWidth 32 = sz := asizeCode_word a.toNat
  have habl : (altCode p).setWidth 32 = abl := altCode_word p
  have hmm : (asizeCode (asizeMapped p)).setWidth 32 = mm := asizeCode_mapped_word p
  clear_value w c ci4 ci sz abl mm
  refine ⟨rfl, ?cmd, ?wr1, ?wra, ?rd1, ?rdaFour, ?rdaOne, ?mmap⟩
  case cmd => simp [tmwOfCmd, tmwPack_eq_or, hw, hc]
  case wr1 => simp [tmwOfWr1, tmwPack_eq_or, hw, BitVec.or_assoc, BitVec.or_comm _ w]
  case wra => simp [tmwOfWra, tmwPack_eq_or, hw, hc, hci, hsz, apply_ite (BitVec.setWidth 32)]
  case rd1 => simp [tmwOfRd1, tmwPack_eq_or, hw, BitVec.or_assoc, BitVec.or_comm _ w]
  case rdaFour => simp [tmwOfRda, tmwPack_eq_or, hw, hci4, hsz, habl]
  case rdaOne => simp [tmwOfRda, tmwPack_eq_or, hw, hsz]
  case mmap => simp [tmwOfMmap, tmwPack_eq_or, hci4, hmm, habl]

end Sys2Proof.Machine
end

section
/-! PROOF. O40: the values on the lines, one per clock (30_encoding.md R119). -/

namespace Sys2Proof.Machine

/-- A byte takes eight clocks on one line and two on four. -/
@[simp] theorem length_byteClocks (l : Lines) (d : Dir) (b : Byte) : (byteClocks l d b).length = 8 / linesNat l := by
  cases l <;> cases d <;> simp [byteClocks, linesNat]

/-- Bytes take eight clocks each on one line and two each on four; the division is exact. -/
theorem length_flatMap_byteClocks (l : Lines) (d : Dir) (bs : List Byte) :
    (bs.flatMap (byteClocks l d)).length = 8 * bs.length / linesNat l := by
  have hsum : (bs.flatMap (byteClocks l d)).length = bs.length * (8 / linesNat l) := by simp [List.length_flatMap]
  rw [hsum]
  cases l <;> simp only [linesNat] <;> omega

/-- The bits of an address (30_encoding.md R114). -/
def addrBits (z : ASize) : Nat :=
  match z with
  | .a24 => 24
  | .a32 => 32

@[simp] theorem length_addrClocks (a : AddrPhase) : (addrClocks a).length = addrBits a.size / linesNat a.lines := by
  rw [addrClocks, length_flatMap_byteClocks, addrBytes]
  cases a.size <;> rfl

@[simp] theorem length_dummyClocks (n : Nat) : (dummyClocks n).length = n := List.length_replicate

/-- During Dummy the block does not drive the lines. -/
theorem undriven_of_mem_dummyClocks {n : Nat} {c : LineClock} (h : c ∈ dummyClocks n) : c = .undriven := List.eq_of_mem_replicate h

/-- A frame's line values are as many as its clocks: phase by phase, an absent phase taking none. -/
theorem length_wire (f : Frame) : f.wire.length = f.cycles := by
  obtain ⟨_, _, _, addr, alt, _, data, _⟩ := f
  rcases addr with _ | ⟨_, _ | _, _⟩ <;> cases alt <;> cases data <;>
    simp only [Frame.wire, Frame.cycles, List.length_append, List.length_nil, length_byteClocks, length_addrClocks, addrBits,
      length_dummyClocks, length_flatMap_byteClocks]

/-- Settles O40: the clocks of each phase, and of the whole frame. -/
theorem frameTakesOneClockPerLineValue : Obligations.FrameTakesOneClockPerLineValue := fun f =>
  ⟨length_wire f, length_byteClocks, length_addrClocks, length_dummyClocks f.dummy, fun _ => undriven_of_mem_dummyClocks,
    fun d => length_flatMap_byteClocks d.lines d.dir d.bytes⟩

end Sys2Proof.Machine
end

section
/-! PROOF. O5: a reserved selector and a reserved mode word are `Unsupported` (30_encoding.md R132, R133). -/

namespace Sys2Proof.Machine

/-- An operation whose first step raises an outcome changes nothing but the outputs (60_exceptions.md R260). -/
theorem runOp_of_raise {m : Micro} {f : Fault} {s : State} (ms : List Micro) (h : Quiet s) (hm : m (beginOp s) = raise f (beginOp s)) :
    runOp (m :: ms) s = .next (stopped f s) := by
  obtain ⟨hf, hs⟩ := h
  have hbegin : halted (beginOp s) = false := (halted_eq_false _).2 ⟨hf, rfl⟩
  have hrun : runMicros (m :: ms) (beginOp s) = raise f (beginOp s) := by
    rw [runMicros_cons m ms (beginOp s) hs hbegin, hm]
    exact if_pos rfl
  rw [runOp_none _ s hf, hrun, endOp_of_fault _ rfl]
  rfl

theorem reservedOp_eq (sel : BitVec 5) {s : State} (h : Quiet s) :
    reservedOp sel s = .next (stopped (.unsupported (.reservedSelector sel)) s) :=
  runOp_of_raise [] h rfl

/-- A reserved mode word is read as one. -/
theorem decode_reservedTmw {w : Word} (h : reservedTmw w = true) : decode (tmwInput w) = .error .reservedTmw := by
  simp only [decode, tmwInput, decodeTmw, wordAt_leBytes, h, if_true]

/-- Settles O5: the operation of every reserved selector is `reservedOp`, and a reserved mode word is no row. -/
theorem reservedEncodingsAreUnsupported : Obligations.ReservedEncodingsAreUnsupported := by
  refine ⟨fun s hq p hp => ?selector, fun s w rest hf hi hw => ?word⟩
  case selector =>
    have hexec : exec p.1 s = reservedOp p.2 s := by
      fin_cases hp <;> rfl
    rw [hexec, reservedOp_eq p.2 hq]
  case word =>
    rw [step_unlisted s _ rest _ hf hi (decode_reservedTmw hw)]
    rfl

end Sys2Proof.Machine
end

section
/-! PROOF. O19, O20 and O21: CONFIGURE (40_bus_config.md R151 to R157). Its check, its other micro-steps run to the end, the state they
lead to, and the two words it loads as numbers. -/

namespace Sys2Proof.Machine

/-! ### Parameters and words -/

/-- The ranges of 40_bus_config.md R155. -/
theorem paramsLegal_iff (p : Params) :
    paramsLegal p = true ↔ 1 ≤ p.prescaler ∧ p.prescaler ≤ 256 ∧ p.timeoutEn = false ∧ 1 ≤ p.csHighCycles ∧ p.csHighCycles ≤ 8
      ∧ 24 ≤ p.capLog2Bits ∧ p.capLog2Bits ≤ 31 := by
  simp [paramsLegal, and_assoc]

/-! ### Micro-steps that no outcome ends -/

/-- `m` raises no outcome, unwinds no caller and leaves the schedule as it was, whatever state it finds. -/
def Smooth (m : Micro) : Prop := ∀ s, halted (m s) = halted s ∧ (m s).sched = s.sched

/-- With no schedule, smooth micro-steps are run one after the other to the end. -/
theorem runMicros_smooth {ms : List Micro} (hms : ∀ m ∈ ms, Smooth m) (s : State) (hq : s.sched = []) (hh : halted s = false) :
    runMicros ms s = ms.foldl (fun t m => m t) s := by
  induction ms generalizing s with
  | nil => rfl
  | cons m ms ih =>
    obtain ⟨hm, hrest⟩ := List.forall_mem_cons.1 hms
    obtain ⟨hhalted, hsched⟩ := hm s
    rw [runMicros_cons m ms s hq hh, hhalted, hh]
    exact ih hrest (m s) (hsched.trans hq) (hhalted.trans hh)

/-- What is recorded of the frame that a reset or an abort cuts off (10_state.md R45, R65). -/
theorem emitCutOff_eq (s : State) :
    emitCutOff s = { s with trace := s.trace ++ if s.ph = .idle then [] else [.frame (currentFrame s true)] } := by
  by_cases h : s.ph = .idle
  · rw [emitCutOff, if_pos (by simp [h]), if_pos h, List.append_nil]
  · simp [emitCutOff, h, emit]

theorem smooth_peripheralReset : Smooth peripheralReset := fun s => by
  simp [peripheralReset, emitCutOff_eq, halted]

/-! ### CONFIGURE -/

theorem checkParams_of_legal {s : State} (h : paramsLegal s.par = true) : checkParams s = s := if_pos h

theorem checkParams_of_illegal {s : State} (h : paramsLegal s.par = false) : checkParams s = raise (.unsupported .parameters) s := by
  simp [checkParams, h]

/-- The lines of R151 behind the check, one after the other. -/
theorem resetAndLoads_eq_configured (s : State) :
    loadDcr (dcrWord s.par) (loadCr (crWord s.par) (peripheralReset (enablePins s))) = configured s := by
  have hframe : currentFrame (emit .periphReset (enablePins s)) true = currentFrame s true := rfl
  have hph : (emit .periphReset (enablePins s)).ph = s.ph := rfl
  rw [peripheralReset, emitCutOff_eq, hframe, hph]
  simp [loadDcr, loadCr, enablePins, configured, emit]

theorem runMicros_configureSteps (s : State) (hq : s.sched = []) (hh : halted s = false) (hp : paramsLegal s.par = true) :
    runMicros (configureSteps s.par) s = configured s := by
  have hsmooth : ∀ m ∈ [enablePins, peripheralReset, loadCr (crWord s.par), loadDcr (dcrWord s.par)], Smooth m := by
    simp only [List.forall_mem_cons]
    exact ⟨fun _ => ⟨rfl, rfl⟩, smooth_peripheralReset, fun _ => ⟨rfl, rfl⟩, fun _ => ⟨rfl, rfl⟩, nofun⟩
  rw [configureSteps, runMicros_cons _ _ s hq hh, checkParams_of_legal hp, hh]
  exact (runMicros_smooth hsmooth s hq hh).trans (resetAndLoads_eq_configured s)

theorem exec_configure {s : State} (h : Quiet s) (hp : paramsLegal s.par = true) :
    exec .configure s = .next (ended (configured s)) := by
  obtain ⟨hf, hs⟩ := h
  have hbegin : halted (beginOp s) = false := (halted_eq_false _).2 ⟨hf, rfl⟩
  have hend : halted (configured (beginOp s)) = false := hbegin
  have hrun : runMicros (configureSteps s.par) (beginOp s) = configured (beginOp s) :=
    runMicros_configureSteps (beginOp s) hs hbegin hp
  calc exec .configure s
      = .next (endOp (runMicros (configureSteps s.par) (beginOp s))) := exec_of_none .configure s hf
    _ = .next { configured (beginOp s) with opDone := true } := by rw [hrun, endOp_of_not_halted _ hend]
    _ = .next (ended (configured s)) := rfl

/-- On an idle wire CONFIGURE finds no frame to cut off. -/
theorem configured_trace_of_idle {s : State} (h : s.ph = .idle) :
    (configured s).trace = s.trace ++ [.periphReset, .cfgLoad (crWord s.par) (dcrWord s.par)] := by
  simp [configured, h]

theorem ended_configured_twice (s : State) :
    let t := ended (configured s)
    ended (configured t) = { t with trace := t.trace ++ [.periphReset, .cfgLoad (crWord s.par) (dcrWord s.par)] } := by
  intro t
  calc ended (configured t)
      = { t with trace := (configured t).trace } := rfl
    _ = { t with trace := t.trace ++ [.periphReset, .cfgLoad (crWord s.par) (dcrWord s.par)] } := by
      rw [configured_trace_of_idle (s := t) rfl]
      rfl

/-! ### The two words as numbers -/

/-- Bits put behind a word shift it to the left. -/
theorem toNat_append_eq_add {m n : Nat} (x : BitVec m) (y : BitVec n) : (x ++ y).toNat = x.toNat * 2 ^ n + y.toNat := by
  rw [BitVec.toNat_append, ← Nat.shiftLeft_add_eq_or_of_lt y.isLt, Nat.shiftLeft_eq]

theorem toNat_crPack (pre : Byte) (ss : Bool) :
    (crPack pre ss false).toNat = pre.toNat * 2 ^ 24 + 3 * 2 ^ 8 + (if ss then 16 else 0) + 1 := by
  have hss : (BitVec.ofBool ss).toNat * 16 = if ss then 16 else 0 := by cases ss <;> rfl
  simp only [crPack, toNat_append_eq_add, BitVec.toNat_ofNat, BitVec.toNat_ofBool, Bool.toNat_false, BitVec.ofNat_eq_ofNat, ← hss]
  omega

theorem toNat_dcrPack (fs : BitVec 5) (ht : BitVec 3) :
    (dcrPack fs ht).toNat = fs.toNat * 2 ^ 16 + ht.toNat * 2 ^ 8 + 2 := by
  simp only [dcrPack, toNat_append_eq_add, BitVec.toNat_ofNat, BitVec.ofNat_eq_ofNat]
  omega

theorem crWord_eq_ofNat {p : Params} (hp : paramsLegal p = true) :
    crWord p = BitVec.ofNat 32 ((p.prescaler - 1) * 2 ^ 24 + 3 * 2 ^ 8 + (if p.sampleShift then 16 else 0) + 1) := by
  obtain ⟨_, hpre, hto, -⟩ := (paramsLegal_iff p).1 hp
  have hfit : (BitVec.ofNat 8 (p.prescaler - 1)).toNat = p.prescaler - 1 := Nat.mod_eq_of_lt (by omega)
  calc crWord p
      = BitVec.ofNat 32 (crWord p).toNat := by simp
    _ = _ := by rw [crWord, hto, toNat_crPack, hfit]

theorem dcrWord_eq_ofNat {p : Params} (hp : paramsLegal p = true) :
    dcrWord p = BitVec.ofNat 32 ((p.capLog2Bits - 4) * 2 ^ 16 + (p.csHighCycles - 1) * 2 ^ 8 + 2) := by
  obtain ⟨_, _, _, _, hcs, _, hcap⟩ := (paramsLegal_iff p).1 hp
  have hfs : (BitVec.ofNat 5 (p.capLog2Bits - 4)).toNat = p.capLog2Bits - 4 := Nat.mod_eq_of_lt (by omega)
  have hht : (BitVec.ofNat 3 (p.csHighCycles - 1)).toNat = p.csHighCycles - 1 := Nat.mod_eq_of_lt (by omega)
  calc dcrWord p
      = BitVec.ofNat 32 (dcrWord p).toNat := by simp
    _ = _ := by rw [dcrWord, toNat_dcrPack, hfs, hht]

/-! ### The obligations -/

/-- Settles O19: the micro-steps behind the check run to the end, and the fields of the two words do not overlap. -/
theorem configureResetsAndLoads : Obligations.ConfigureResetsAndLoads := fun _ hq hp =>
  ⟨exec_configure hq hp, crWord_eq_ofNat hp, dcrWord_eq_ofNat hp⟩

/-- Settles O20: the check stands first, and it fails outside each range. -/
theorem configureRefusesIllegalParameters : Obligations.ConfigureRefusesIllegalParameters := by
  intro s hq hout
  have hillegal : paramsLegal s.par = false := by
    rw [Bool.eq_false_iff, Ne, paramsLegal_iff]
    rintro ⟨hpre, hpre', hto, hcs, hcs', hcap, hcap'⟩
    simp only [hto, Bool.false_eq_true, false_or] at hout
    omega
  exact runOp_of_raise _ hq (checkParams_of_illegal hillegal)

/-- Settles O21: the first run leaves an idle wire, so that the second changes nothing but the trace. -/
theorem configureTwiceIsOnce : Obligations.ConfigureTwiceIsOnce := fun s hq hp =>
  ⟨ended (configured s), ended (configured (ended (configured s))), exec_configure hq hp, exec_configure hq hp,
    ended_configured_twice s⟩

end Sys2Proof.Machine
end

section
/-! PROOF. O13 to O16: the protection window (41_protection_window.md R162 to R168). A mask of `n` low ones frees the lowest `n` eighths
of its region; what the masks of R166 free together is the capacity; and a bracket run as an operation. -/

namespace Sys2Proof.Machine

/-! ### The masks -/

/-- How many low bits of the mask of R166 are 1: the outer, the middle and the inner region. -/
def onesOuter (cap : Nat) : Nat := min 8 (max 1 (ceilDiv cap (2 ^ 25)))
def onesMid (cap : Nat) : Nat := if 2 ^ 25 ≤ cap then 8 else max 1 (ceilDiv cap (2 ^ 22))
def onesInner (cap : Nat) : Nat := if 2 ^ 24 ≤ cap then 8 else max 1 (ceilDiv cap (2 ^ 21))

theorem srdOuter_eq_lowOnes (cap : Nat) : srdOuter cap = lowOnes (onesOuter cap) := rfl

theorem srdMid_eq_lowOnes (cap : Nat) : srdMid cap = lowOnes (onesMid cap) :=
  (apply_ite lowOnes (2 ^ 25 ≤ cap) 8 _).symm

theorem srdInner_eq_lowOnes (cap : Nat) : srdInner cap = lowOnes (onesInner cap) :=
  (apply_ite lowOnes (2 ^ 24 ≤ cap) 8 _).symm

theorem onesOuter_le (cap : Nat) : onesOuter cap ≤ 8 := Nat.min_le_left ..

theorem onesMid_le (cap : Nat) : onesMid cap ≤ 8 := by
  unfold onesMid ceilDiv
  split <;> omega

theorem onesInner_le (cap : Nat) : onesInner cap ≤ 8 := by
  unfold onesInner ceilDiv
  split <;> omega

theorem getLsbD_lowOnes {n i : Nat} (hi : i < 8) : (lowOnes n).getLsbD i = decide (i < n) := by
  rw [lowOnes, BitVec.getLsbD_ofNat, Nat.testBit_two_pow_sub_one, decide_eq_true hi, Bool.true_and]

theorem popcount_lowOnes : ∀ n ≤ 8, popcount (lowOnes n) = n := by decide

/-! ### Which addresses a region fails to match -/

/-- Beyond its end, or in one of the `n` lowest of its eight sub-regions of `2 ^ k` bytes (20_memory.md R85). -/
theorem rgnMatches_lowOnes_eq_false {r : Rgn} {n k : Nat} (x : Nat) (he : r.enable = true) (hsrd : r.srd = lowOnes n)
    (hclass : r.sizeClass.toNat = k + 2) :
    rgnMatches r (r.base.toNat + x) = false ↔ 2 ^ (k + 3) ≤ x ∨ x < 2 ^ k * n := by
  have hsize : rgnSize r = 2 ^ (k + 3) := by rw [rgnSize, hclass]
  have heighth : 2 ^ (k + 3) / 8 = 2 ^ k := by rw [Nat.pow_add]; omega
  rcases Nat.lt_or_ge x (2 ^ (k + 3)) with hx | hx
  · have hbit : r.srd.getLsbD (x / 2 ^ k) = decide (x / 2 ^ k < n) := by
      rw [hsrd, getLsbD_lowOnes (Nat.div_lt_of_lt_mul (Nat.pow_add 2 k 3 ▸ hx))]
    simp [rgnMatches, he, hsize, heighth, hbit, hx, Nat.not_le.2 hx, Nat.div_lt_iff_lt_mul (Nat.two_pow_pos k), Nat.mul_comm n]
  · simp [rgnMatches, hsize, hx, Nat.not_lt.2 hx]

section Regions

variable (p : Params) {x : Nat} (n : Nat)

/-- The outer region covers the span. -/
theorem outer_misses_iff (hx : x < Config.spanBytes) :
    rgnMatches (rgnOuterWith p (lowOnes n)) (spanBase p + x) = false ↔ x < 2 ^ 25 * n := by
  have h := rgnMatches_lowOnes_eq_false (r := rgnOuterWith p (lowOnes n)) (k := 25) x rfl rfl rfl
  exact h.trans (or_iff_right (Nat.not_le.2 hx))

theorem mid_misses_iff : rgnMatches (rgnMidWith p (lowOnes n)) (spanBase p + x) = false ↔ 2 ^ 25 ≤ x ∨ x < 2 ^ 22 * n :=
  rgnMatches_lowOnes_eq_false (r := rgnMidWith p (lowOnes n)) (k := 22) x rfl rfl rfl

theorem inner_misses_iff : rgnMatches (rgnInnerWith p (lowOnes n)) (spanBase p + x) = false ↔ 2 ^ 24 ≤ x ∨ x < 2 ^ 21 * n :=
  rgnMatches_lowOnes_eq_false (r := rgnInnerWith p (lowOnes n)) (k := 21) x rfl rfl rfl

end Regions

/-- An address is allowed when no region matches it, whatever their order (20_memory.md R84). -/
theorem allowed_eq_true_iff (s : State) (a : Nat) :
    allowed s a = true ↔ rgnMatches s.rgnOuter a = false ∧ rgnMatches s.rgnMid a = false ∧ rgnMatches s.rgnInner a = false := by
  unfold allowed allowedBy
  split
  · simp_all
  · split <;> simp_all

/-! ### Capacities -/

/-- A power of two divides every capacity that is not smaller. -/
theorem pow_dvd_capBytes {p : Params} {j : Nat} (h : 2 ^ j ≤ capBytes p) : 2 ^ j ∣ capBytes p :=
  Nat.pow_dvd_pow 2 ((Nat.pow_le_pow_iff_right (by decide)).1 h)

/-- From 2 MiB to 256 MiB (40_bus_config.md R155). -/
theorem capBytes_bounds {p : Params} (hp : paramsLegal p = true) : 2 ^ 21 ≤ capBytes p ∧ capBytes p ≤ 2 ^ 28 := by
  obtain ⟨_, _, _, _, _, hlo, hhi⟩ := (paramsLegal_iff p).1 hp
  exact ⟨Nat.pow_le_pow_right (by decide) (by omega), Nat.pow_le_pow_right (by decide) (by omega)⟩

/-- The three masks together free exactly the capacity (R168). The capacity says which region ends the freed addresses: below 16 MiB the
inner one, below 32 MiB the middle one, from there on the outer one. -/
theorem freed_iff_lt_capBytes {p : Params} (hp : paramsLegal p = true) (x : Nat) :
    (x < 2 ^ 25 * onesOuter (capBytes p) ∧ (2 ^ 25 ≤ x ∨ x < 2 ^ 22 * onesMid (capBytes p))
      ∧ (2 ^ 24 ≤ x ∨ x < 2 ^ 21 * onesInner (capBytes p))) ↔ x < capBytes p := by
  obtain ⟨hlo, hhi⟩ := capBytes_bounds hp
  rcases Nat.lt_or_ge (capBytes p) (2 ^ 24) with hinner | hinner
  · have hdvd : 2 ^ 21 ∣ capBytes p := pow_dvd_capBytes hlo
    have hmid : ¬2 ^ 25 ≤ capBytes p := by omega
    simp only [onesOuter, onesMid, onesInner, ceilDiv, if_neg hmid, if_neg (Nat.not_le.2 hinner)]
    omega
  rcases Nat.lt_or_ge (capBytes p) (2 ^ 25) with hmid | hmid
  · have hdvd : 2 ^ 24 ∣ capBytes p := pow_dvd_capBytes hinner
    simp only [onesOuter, onesMid, onesInner, ceilDiv, if_neg (Nat.not_le.2 hmid), if_pos hinner]
    omega
  · have hdvd : 2 ^ 25 ∣ capBytes p := pow_dvd_capBytes hmid
    simp only [onesOuter, onesMid, onesInner, ceilDiv, if_pos hmid, if_pos hinner]
    omega

/-! ### The window after a bracket -/

theorem opened_rgnOuter (s : State) : (opened s).rgnOuter = rgnOuterWith s.par (lowOnes (onesOuter (capBytes s.par))) := by
  rw [← srdOuter_eq_lowOnes]
  rfl

theorem opened_rgnMid (s : State) : (opened s).rgnMid = rgnMidWith s.par (lowOnes (onesMid (capBytes s.par))) := by
  rw [← srdMid_eq_lowOnes]
  rfl

theorem opened_rgnInner (s : State) : (opened s).rgnInner = rgnInnerWith s.par (lowOnes (onesInner (capBytes s.par))) := by
  rw [← srdInner_eq_lowOnes]
  rfl

/-- After ALLOW_MAPPED exactly the capacity is allowed (R168). -/
theorem allowed_opened_iff {s : State} {x : Nat} (hp : paramsLegal s.par = true) (hx : x < Config.spanBytes) :
    allowed (opened s) (spanBase s.par + x) = true ↔ x < capBytes s.par := by
  rw [allowed_eq_true_iff, opened_rgnOuter, opened_rgnMid, opened_rgnInner, outer_misses_iff _ _ hx, mid_misses_iff,
    inner_misses_iff, freed_iff_lt_capBytes hp]

theorem windowOpen_opened {s : State} (hp : paramsLegal s.par = true) : windowOpen (opened s) = true := by
  rw [windowOpenIffExactlyValidAllowed]
  intro a ha
  obtain ⟨hlo, hhi⟩ := (inSpan_iff s.par a).1 ha
  obtain ⟨x, rfl⟩ := Nat.exists_eq_add_of_le hlo
  have hvalid : inValid (opened s).par (spanBase s.par + x) = true ↔ x < capBytes s.par := by
    simp [inValid, opened, bracketed]
  rw [hvalid]
  exact allowed_opened_iff hp (Nat.lt_of_add_lt_add_left hhi)

/-- After DENY_ALL the outer region, with no sub-region disabled, matches the whole span (R163). -/
theorem windowClosed_closed (s : State) : windowClosed (closed s) = true := by
  rw [windowClosedIffAllDenied]
  intro a ha
  obtain ⟨hlo, hhi⟩ := (inSpan_iff s.par a).1 ha
  obtain ⟨x, rfl⟩ := Nat.exists_eq_add_of_le hlo
  rw [Bool.eq_false_iff, Ne, allowed_eq_true_iff]
  rintro ⟨hout, -, -⟩
  have hlt : x < 2 ^ 25 * 0 := (outer_misses_iff s.par 0 (Nat.lt_of_add_lt_add_left hhi)).1 hout
  omega

/-- One bracket run as an operation (R162). -/
theorem runOp_of_bracketed {m : Micro} {outer mid inner : Rgn} {s : State} (h : Quiet s)
    (hm : m (beginOp s) = bracketed outer mid inner (beginOp s)) :
    runOp [m] s = .next (ended (bracketed outer mid inner s)) := by
  obtain ⟨hf, hs⟩ := h
  have hbegin : halted (beginOp s) = false := (halted_eq_false _).2 ⟨hf, rfl⟩
  have hend : halted (bracketed outer mid inner (beginOp s)) = false := hbegin
  have hrun : runMicros [m] (beginOp s) = bracketed outer mid inner (beginOp s) := by
    rw [runMicros_cons m [] (beginOp s) hs hbegin, hm, hend]
    rfl
  rw [runOp_none _ s hf, hrun, endOp_of_not_halted _ hend]
  rfl

theorem exec_denyAll {s : State} (h : Quiet s) : exec .denyAll s = .next (ended (closed s)) :=
  runOp_of_bracketed h (denyStep_eq_closed (beginOp s))

theorem exec_allowMapped {s : State} (h : Quiet s) : exec .allowMapped s = .next (ended (opened s)) :=
  runOp_of_bracketed h (allowStep_eq_opened (beginOp s))

/-! ### The obligations -/

/-- Settles O13: the operation is one bracket, and the outer region alone denies the span. -/
theorem denyAllClosesWindow : Obligations.DenyAllClosesWindow := fun s hq =>
  ⟨exec_denyAll hq, windowClosed_closed s⟩

/-- Settles O14: the operation is one bracket, and at every address of the span `allowed` is the valid sub-range. -/
theorem allowMappedOpensWindow : Obligations.AllowMappedOpensWindow := fun _ hq =>
  ⟨exec_allowMapped hq, fun ⟨hp, _⟩ => windowOpen_opened hp⟩

/-- Settles O15: each mask is its count of low ones, and together they free the capacity. -/
theorem allowMappedPermitsExactlyTheCapacity : Obligations.AllowMappedPermitsExactlyTheCapacity := by
  rintro s x ⟨hp, -⟩ hx t a
  have hout : t.rgnOuter = _ := opened_rgnOuter s
  have hmid : t.rgnMid = _ := opened_rgnMid s
  have hin : t.rgnInner = _ := opened_rgnInner s
  refine ⟨?outer, ?mid, ?inner, allowed_eq_true_iff t a, allowed_opened_iff hp hx⟩
  case outer => rw [hout, outer_misses_iff s.par _ hx, rgnOuterWith, popcount_lowOnes _ (onesOuter_le _)]
  case mid => rw [hmid, mid_misses_iff, rgnMidWith, popcount_lowOnes _ (onesMid_le _)]
  case inner => rw [hin, inner_misses_iff, rgnInnerWith, popcount_lowOnes _ (onesInner_le _)]

/-- Settles O16: of the parameters only the capacity counts, and then each row of the table is one evaluation. -/
theorem masksAndAttributesOfEveryCapacity : Obligations.MasksAndAttributesOfEveryCapacity := by
  intro p row hrow hcap
  have hbytes : capBytes p = 2 ^ (row.1 - 3) := by rw [capBytes, hcap]
  refine ⟨hbytes, ?_⟩
  simp only [rgnAttr, rgnOuterWith, rgnMidWith, rgnInnerWith, hbytes]
  clear hcap hbytes
  revert row
  decide

end Sys2Proof.Machine
end

section
/-! PROOF. O24, O26 and O33: the checks of the primitives and of MMAP_CFG (42_transaction_primitives.md R182, R206), the operand checks
behind them, and MMAP_CFG, which makes its checks and then writes two registers. -/

namespace Sys2Proof.Machine

/-! ### Micro-steps when no other agent steps -/

/-- No other agent steps, and nothing has halted the operation under way. -/
structure Alone (s : State) : Prop where
  sched : s.sched = []
  running : halted s = false

theorem Alone.fault {s : State} (h : Alone s) : s.fault = none := fault_of_not_halted h.running

theorem alone_beginOp {s : State} (h : Quiet s) : Alone (beginOp s) := ⟨h.2, (halted_eq_false _).2 ⟨h.1, rfl⟩⟩

/-- A micro-step that leads to `t` and halts nothing is done; the others are left. -/
theorem Alone.runMicros_cons {m : Micro} {s t : State} (h : Alone s) (hm : m s = t) (ht : Alone t) (ms : List Micro) :
    runMicros (m :: ms) s = runMicros ms t := by
  rw [Machine.runMicros_cons m ms s h.sched h.running, hm, ht.running]
  rfl

/-- A micro-step that halts the operation is the last one. -/
theorem Alone.runMicros_last {m : Micro} {s t : State} (h : Alone s) (hm : m s = t) (ht : halted t = true) (ms : List Micro) :
    runMicros (m :: ms) s = t := by
  rw [Machine.runMicros_cons m ms s h.sched h.running, hm, ht]
  rfl

/-- A check that passes changes nothing. -/
theorem runOp_of_pass {m : Micro} {s : State} (ms : List Micro) (h : Quiet s) (hm : m (beginOp s) = beginOp s) :
    runOp (m :: ms) s = runOp ms s := by
  rw [runOp_none _ s h.1, runOp_none _ s h.1, (alone_beginOp h).runMicros_cons hm (alone_beginOp h)]

/-! ### The checks -/

/-- The checks of R182 and R206 pass. -/
structure Cleared (s : State) : Prop where
  mode : s.mode = .indirectAccess
  enabled : crEn s.cr = true
  closed : windowClosed s = true
  free : s.busy = .zero

theorem Cleared.beginOp {s : State} (h : Cleared s) : Cleared (beginOp s) := ⟨h.mode, h.enabled, h.closed, h.free⟩

theorem Cleared.commonPre {s : State} (h : Cleared s) : commonPre s = s :=
  commonPre_pass _ h.mode h.enabled h.closed h.free

theorem Cleared.mmapPre {s : State} (h : Cleared s) : mmapPre s = s :=
  mmapPre_pass _ h.mode h.enabled h.closed h.free

theorem Ready.cleared {s : State} (h : Ready s) : Cleared s := by
  obtain ⟨-, -, -, -, hmode, hen, hclosed, hfree⟩ := h
  exact ⟨hmode, hen, hclosed, hfree⟩

theorem readBusy_zero {s : State} (h : s.busy = .zero) : readBusy s = (false, s) := by
  rw [readBusy, h]

theorem readBusy_one {s : State} (h : s.busy = .one) : readBusy s = (true, s) := by
  rw [readBusy, h]

section Checks

variable (s : State)

theorem commonPre_outside (hm : s.mode ≠ .indirectAccess) : commonPre s = raise (.misuse .outsideBracket) s := by
  simp [commonPre, hm]

theorem commonPre_disabled (hm : s.mode = .indirectAccess) (he : crEn s.cr = false) :
    commonPre s = raise (.misuse .notConfigured) s := by
  simp [commonPre, hm, he]

theorem commonPre_window (hm : s.mode = .indirectAccess) (he : crEn s.cr = true) (hw : windowClosed s = false) :
    commonPre s = raise (.misuse .windowNotClosed) s := by
  simp [commonPre, hm, he, hw]

theorem commonPre_busy (hm : s.mode = .indirectAccess) (he : crEn s.cr = true) (hw : windowClosed s = true) (hb : s.busy = .one) :
    commonPre s = raise (.unsupported .busy) s := by
  simp [commonPre, hm, he, hw, readBusy_one hb]

theorem mmapPre_disabled (he : crEn s.cr = false) : mmapPre s = raise (.misuse .notConfigured) s := by
  simp [mmapPre, he]

theorem mmapPre_busy (he : crEn s.cr = true) (hb : s.busy = .one) : mmapPre s = raise (.unsupported .busy) s := by
  simp [mmapPre, he, readBusy_one hb]

theorem mmapPre_outside (he : crEn s.cr = true) (hb : s.busy = .zero) (hm : s.mode ≠ .indirectAccess) :
    mmapPre s = raise (.misuse .outsideBracket) s := by
  simp [mmapPre, he, readBusy_zero hb, hm]

theorem mmapPre_window (he : crEn s.cr = true) (hb : s.busy = .zero) (hm : s.mode = .indirectAccess) (hw : windowClosed s = false) :
    mmapPre s = raise (.misuse .windowNotClosed) s := by
  simp [mmapPre, he, readBusy_zero hb, hm, hw]

end Checks

/-- The four checks stand first in each of the six primitives. -/
theorem exec_of_commonPre_raise {i : Instr} {s : State} {f : Fault} (hi : isPrimitive i = true) (h : Quiet s)
    (hf : commonPre (beginOp s) = raise f (beginOp s)) : exec i s = .next (stopped f s) := by
  cases i with
  | rdid | cmd | wr1 | wra | rd1 | rda => exact runOp_of_raise _ h hf
  | _ => cases hi

/-- Settles O24: the checks are tried in their order, and the first that fails is all that the operation does. -/
theorem primitivesCheckTheirPreconditions : Obligations.PrimitivesCheckTheirPreconditions := by
  refine ⟨fun i s hi h => ?primitives, fun s h => ?mmapCfg⟩
  case primitives =>
    exact ⟨fun hm => exec_of_commonPre_raise hi h (commonPre_outside (beginOp s) hm),
      fun hm he => exec_of_commonPre_raise hi h (commonPre_disabled (beginOp s) hm he),
      fun hm he hw => exec_of_commonPre_raise hi h (commonPre_window (beginOp s) hm he hw),
      fun hm he hw hb => exec_of_commonPre_raise hi h (commonPre_busy (beginOp s) hm he hw hb)⟩
  case mmapCfg =>
    exact ⟨fun he => runOp_of_raise _ h (mmapPre_disabled (beginOp s) he),
      fun he hb => runOp_of_raise _ h (mmapPre_busy (beginOp s) he hb),
      fun he hb hm => runOp_of_raise _ h (mmapPre_outside (beginOp s) he hb hm),
      fun he hb hm hw => runOp_of_raise _ h (mmapPre_window (beginOp s) he hb hm hw)⟩

/-! ### The operand checks -/

theorem require_true {ok : Bool} (h : ok = true) (r : UnsupportedReason) (s : State) : require ok r s = s := if_pos h

theorem require_false {ok : Bool} (h : ok = false) (r : UnsupportedReason) (s : State) : require ok r s = raise (.unsupported r) s := by
  rw [require, h]
  rfl

/-- An operand check that fails behind checks that pass is all that the operation does. -/
theorem runOp_of_operand {ok : Bool} {r : UnsupportedReason} {s : State} (ms : List Micro) (h : Ready s) (hok : ok = false) :
    runOp (commonPre :: require ok r :: ms) s = .next (stopped (.unsupported r) s) := by
  rw [runOp_of_pass _ h.1 h.cleared.beginOp.commonPre]
  exact runOp_of_raise ms h.1 (require_false hok r _)

/-- Settles O26: the operand checks follow the four common ones and precede every write. -/
theorem operandChecksPrecedeEveryWrite : Obligations.OperandChecksPrecedeEveryWrite := by
  intro s o n a len p h
  refine ⟨fun hlen => ?wr1, fun hlen => ?rd1, ?rda, fun hlen => ?fastRead⟩
  case wr1 => exact runOp_of_operand _ h (by simpa using hlen)
  case rd1 =>
    refine runOp_of_operand _ h ?_
    rw [Bool.and_eq_false_iff, decide_eq_false_iff_not, decide_eq_false_iff_not]
    omega
  case rda => exact runOp_of_operand _ h rfl
  case fastRead =>
    have hfits : require (len != 0) .rdaLength (beginOp s) = beginOp s := require_true (by simpa using hlen) _ _
    calc exec (.rda 0x0B .one a len p) s
        = runOp (rdaSteps s.par 0x0B .one a len p).tail s := runOp_of_pass _ h.1 h.cleared.beginOp.commonPre
      _ = runOp (rdaSteps s.par 0x0B .one a len p).tail.tail s := runOp_of_pass _ h.1 hfits
      _ = .next (stopped (.unsupported .fastRead) s) := runOp_of_raise _ h.1 (require_false rfl _ _)

/-! ### MMAP_CFG -/

/-- The memory-mapped word starts no frame (42_transaction_primitives.md R181). -/
theorem ccrIndirect_mmap (p : Params) : ccrIndirect (tmwOfMmap p) = false := by
  simp [tmwOfMmap, ccrIndirect]

theorem writeAlt_eq (on : Bool) (s : State) :
    writeAlt on s = { s with abr := if on then Config.altValue.setWidth 32 else s.abr } := by
  cases on <;> rfl

theorem Alone.writeAlt {s : State} (h : Alone s) (on : Bool) : Alone (writeAlt on s) := by
  rw [writeAlt_eq]
  exact ⟨h.sched, h.running⟩

/-- A mode word that starts no frame leaves everything but `CCR` as it was. -/
theorem modeWordWritten_of_not_indirect {w : Word} {s : State} (hw : ccrIndirect w = false) (hb : s.busy = .zero) :
    modeWordWritten w s = { s with ccr := w, trace := s.trace ++ [.tmwWrite w] } := by
  simp only [modeWordWritten, hw, Bool.false_and, Bool.false_eq_true, if_false, ← hb]

/-- A mode word written while `SR.BUSY` is 0. -/
theorem writeTmw_of_free (v : Word) {s : State} (hf : s.fault = none) (hb : s.busy = .zero) : writeTmw v s = modeWordWritten v s :=
  writeTmw_eq_modeWordWritten v s (by simp [busyHeld, hb]) hf

/-- Settles O33: the checks pass, `ABR` is written where the Alt phase is used, and the word starts no frame. -/
theorem mmapCfgWritesTheModeWord : Obligations.MmapCfgWritesTheModeWord := by
  intro s h he hb hm hw
  have hpre : Cleared s := ⟨hm, he, hw, hb⟩
  have hbegin : Alone (beginOp s) := alone_beginOp h
  have halt : Alone (writeAlt s.par.altEn (beginOp s)) := hbegin.writeAlt _
  have hfree : (writeAlt s.par.altEn (beginOp s)).busy = .zero := by rw [writeAlt_eq]; exact hb
  have hword : writeTmw (tmwOfMmap s.par) (writeAlt s.par.altEn (beginOp s)) = mapped (beginOp s) := by
    rw [writeTmw_of_free _ halt.fault hfree, modeWordWritten_of_not_indirect (ccrIndirect_mmap s.par) hfree, writeAlt_eq]
    rfl
  have hrun : runMicros (mmapSteps s.par) (beginOp s) = mapped (beginOp s) := by
    rw [mmapSteps, hbegin.runMicros_cons hpre.beginOp.mmapPre hbegin, hbegin.runMicros_cons rfl halt,
      halt.runMicros_cons hword ⟨hbegin.sched, hbegin.running⟩, runMicros_nil]
  calc exec .mmapCfg s
      = .next (endOp (runMicros (mmapSteps s.par) (beginOp s))) := exec_of_none .mmapCfg s h.1
    _ = .next { mapped (beginOp s) with opDone := true } := by rw [hrun, endOp_of_not_halted (mapped (beginOp s)) hbegin.running]
    _ = .next (ended (mapped s)) := rfl

end Sys2Proof.Machine
end

section
/-! PROOF. O35: a mode word by itself. Every row writes its word under checks that pass; a word that the decoder reads as a row is that
row's word, and a word it reads as none is written all the same. -/

namespace Sys2Proof.Machine

/-- A mode word behind checks that pass. -/
theorem runStep_tmwRow {pre : Micro} {s : State} (v : Word) (hf : s.fault = none) (hb : s.busy = .zero) (hpre : pre s = s) :
    runStep (tmwRow pre v) s = .next (modeWordWritten v s) := by
  have hrow : tmwRow pre v s = writeTmw v s := by
    rw [tmwRow, hpre, hf]
    rfl
  rw [runStep_none _ s hf, hrow, writeTmw_of_free v hf hb]

theorem tmwInput_injective {v w : Word} (h : tmwInput v = tmwInput w) : v = w := by
  have hbytes : leBytes v = leBytes w := congrArg Input.bytes h
  rw [← wordAt_leBytes v, hbytes, wordAt_leBytes]

/-- Every row of the mode-word port writes the word that the encoder puts there. -/
theorem exec_of_tmwInput {i : Instr} {w : Word} {s : State} (hi : encode i = tmwInput w) (hf : s.fault = none) (h : Cleared s) :
    exec i s = .next (modeWordWritten w s) := by
  cases i with
  | tmwRdid | tmwCmd | tmwWr1 | tmwWra | tmwWra0 | tmwRd1 | tmwRda4 | tmwRda1 =>
    obtain rfl := tmwInput_injective hi
    exact runStep_tmwRow _ hf h.free h.commonPre
  | tmwMmapCfg =>
    obtain rfl := tmwInput_injective hi
    exact runStep_tmwRow _ hf h.free h.mmapPre
  | _ => cases congrArg Input.port hi

/-! ### The decoder's reading of a mode word -/

@[simp] theorem lineCode_linesOfBit : ∀ code : BitVec 2, code &&& 1#2 = 1#2 → lineCode (linesOfBit code[1]) = code := by decide

@[simp] theorem asizeCode_asizeOfBit : ∀ code : BitVec 2, code &&& 2#2 = 2#2 → asizeCode (asizeOfBit code[0]) = code := by decide

@[simp] theorem lineCodeOpt_phaseLines : ∀ code : BitVec 2, code ≠ 2#2 → lineCodeOpt (phaseLines code) = code := by decide

@[simp] theorem dummy_and_ones (c : BitVec 5) : c &&& 31#5 = c := BitVec.and_allOnes

@[simp] theorem opcode_and_ones (c : Byte) : c &&& 255#8 = c := BitVec.and_allOnes

/-- A word that is not reserved is the sum of its fields, the code of its Alt phase a legal one (30_encoding.md R111, R132). -/
theorem eq_tmwPack_of_not_reserved {w : Word} (h : reservedTmw w = false) :
    ∃ fm dl dc abl sz al il o, w = tmwPack fm dl dc abl sz al il o ∧ abl ≠ 2#2 := by
  simp only [reservedTmw, Bool.or_eq_false_iff] at h
  obtain ⟨⟨⟨⟨⟨⟨⟨⟨⟨h23, h28⟩, -⟩, -⟩, habl⟩, -⟩, -⟩, -⟩, -⟩, h16⟩ := h
  have hhigh : w.extractLsb' 28 4 = 0 := by simpa using h28
  have habs : w.extractLsb' 16 2 = 0 := by simpa using h16
  refine ⟨_, _, _, _, _, _, _, _, ((tmwPack_extract w).trans ?_).symm, by simpa using habl⟩
  apply BitVec.eq_of_getLsbD_eq
  intro i hi
  have hbit28 := congrArg (fun v => v.getLsbD (i - 28)) hhigh
  have hbit16 := congrArg (fun v => v.getLsbD (i - 16)) habs
  simp only [BitVec.getLsbD_extractLsb'] at hbit28 hbit16
  rw [BitVec.getLsbD_and]
  interval_cases i <;> simp_all

/-- What the decoder reads as a row is what the encoder writes for it: the masks of the rows become tests of the fields, and the test that
a row passes fixes every field that the row does not read back. -/
theorem encode_of_decode_tmw {w : Word} {i : Instr} (h : decode (tmwInput w) = .ok i) : encode i = tmwInput w := by
  simp only [decode, tmwInput, decodeTmw, wordAt_leBytes] at h
  split at h
  · cases h
  next hres =>
    obtain ⟨fm, dl, dc, abl, sz, al, il, o, rfl, habl⟩ := eq_tmwPack_of_not_reserved (Bool.eq_false_of_not_eq_true hres)
    simp only [tmwPack_and, beq_iff_eq, tmwPack_eq_iff, tmwOpc_tmwPack, tmwIl_tmwPack, tmwAl_tmwPack, tmwSz_tmwPack, tmwDl_tmwPack,
      tmwAbl_tmwPack, code_and_three, dummy_and_ones, opcode_and_ones, BitVec.ofNat_eq_ofNat,
      BitVec.reduceAnd, BitVec.reduceExtractLsb', BitVec.and_zero, true_and, and_true] at h
    split_ifs at h with hrdid hcmd hwr1 hwra hwra0 hrd1 hrda4 hrda1 hmmap <;> cases h
    case pos => simp [encode, tmwRdidWord, hrdid]
    case pos => simp [encode, hcmd]
    case pos => simp [encode, hwr1]
    case pos => simp [encode, hwra]
    case pos => simp [encode, hwra0]
    case pos => simp [encode, hrd1]
    case pos => simp [encode, hrda4, habl]
    case pos => simp [encode, hrda1]
    case pos => simp [encode, hmmap, habl]

theorem decode_tmw_error {w : Word} {e : DecodeError} (hw : reservedTmw w = false) (h : decode (tmwInput w) = .error e) :
    e = .unlistedTmw w := by
  simp only [decode, tmwInput, decodeTmw, wordAt_leBytes, hw, Bool.false_eq_true, if_false] at h
  repeat' split at h
  all_goals cases h
  rfl

/-- A word that is not reserved is written, whether it is a row's or none's. -/
theorem step_tmwInput {w : Word} {s : State} (rest : List Input) (hw : reservedTmw w = false) (hf : s.fault = none) (h : Cleared s) :
    step { s with inputs := tmwInput w :: rest } = .next (modeWordWritten w { s with inputs := rest }) := by
  have hrest : Cleared { s with inputs := rest } := ⟨h.mode, h.enabled, h.closed, h.free⟩
  cases hd : decode (tmwInput w) with
  | ok i =>
    rw [step_row { s with inputs := tmwInput w :: rest } _ rest i hf rfl hd]
    exact exec_of_tmwInput (encode_of_decode_tmw hd) hf hrest
  | error e =>
    rw [decode_tmw_error hw hd] at hd
    rw [step_cons_unlisted rest hf hd]
    exact congrArg _ (writeUnlistedTmw_eq w { s with inputs := rest } hf hrest.mode hrest.enabled hrest.closed hrest.free)

/-- Settles O35: a row's word by the row, any other by what the machine does with it. -/
theorem modeWordRowsWriteCcr : Obligations.ModeWordRowsWriteCcr := fun _ _ hf hm he hc hb =>
  ⟨fun _ hi => exec_of_tmwInput hi hf ⟨hm, he, hc, hb⟩, fun rest hw => step_tmwInput rest hw hf ⟨hm, he, hc, hb⟩⟩

end Sys2Proof.Machine
end

section
/-! PROOF. O36 to O39: frames handed to the device (42_transaction_primitives.md R211 to R217). A whole frame is its data, what the device
does with it, and its event; the device answers exactly the rows of R212's table, and each answer is worked out once. -/

namespace Sys2Proof.Machine

/-! ### The phases of a frame handed to the device -/

theorem listening_iff (quad : Lines) (m : DevMode) (il : Lines) :
    listening quad m il = true ↔ m = .spi ∧ il = .one ∨ m = .qpi ∧ il = quad := by
  cases m <;> simp [listening]

section Phases

variable {o : Byte} {f : FrameArgs}

theorem plainFrame_iff : plainFrame (shapeOfArgs o f) = true ↔ f.alt = none ∧ f.dummy = 0 := by
  have hdummy : f.dummy.toNat = 0 ↔ f.dummy = 0 := ⟨fun h => BitVec.eq_of_toNat_eq h, fun h => h ▸ rfl⟩
  simp [plainFrame, shapeOfArgs, hdummy]

theorem data_isNone_iff : (shapeOfArgs o f).data.isNone = true ↔ f.data = .absent := by
  unfold shapeOfArgs
  cases f.data <;> simp

theorem bareFrame_iff : bareFrame (shapeOfArgs o f) = true ↔ Bare f := by
  have hsplit : bareFrame (shapeOfArgs o f) = (f.addr.isNone && (plainFrame (shapeOfArgs o f) && (shapeOfArgs o f).data.isNone)) := by
    simp [bareFrame, plainFrame, shapeOfArgs, Bool.and_assoc]
  obtain ⟨il, addr, alt, dummy, data⟩ := f
  rw [hsplit, Bool.and_eq_true, Bool.and_eq_true, plainFrame_iff, data_isNone_iff]
  simp [Bare, and_assoc]

theorem dataOn_read_iff (l : Lines) : dataOn l .read (shapeOfArgs o f) = true ↔ ∃ last, f.data = .read l last := by
  unfold dataOn shapeOfArgs
  cases f.data <;> simp

theorem dataOn_write_iff (l : Lines) : dataOn l .write (shapeOfArgs o f) = true ↔ ∃ bytes, f.data = .write l bytes := by
  unfold dataOn shapeOfArgs
  cases f.data <;> simp

theorem addrOn_eq_some_iff (l : Lines) (x : Nat) :
    addrOn l (shapeOfArgs o f) = some x ↔ ∃ z a, f.addr = some ⟨l, z, a⟩ ∧ x = a.toNat := by
  unfold addrOn shapeOfArgs
  rcases f.addr with _ | ⟨al, z, a⟩
  · simp
  · by_cases hl : al = l <;> simp [hl, @eq_comm _ x]

theorem optionalAlt_iff : optionalAlt (shapeOfArgs o f) = true ↔ ∀ x, f.alt = some x → x.lines = .four := by
  unfold optionalAlt shapeOfArgs
  cases f.alt <;> simp

/-! ### What is no answer -/

theorem readShape_cases (l : Lines) :
    readShape l (shapeOfArgs o f) = .undefined ∨ ∃ z a last, f.addr = some ⟨l, z, a⟩ ∧ f.data = .read l last := by
  unfold readShape
  split
  next x hx =>
    obtain ⟨z, a, ha, -⟩ := (addrOn_eq_some_iff l x).1 hx
    split
    next hd =>
      obtain ⟨last, hlast⟩ := (dataOn_read_iff l).1 hd
      exact .inr ⟨z, a, last, ha, hlast⟩
    · exact .inl rfl
  · exact .inl rfl

theorem writeShape_cases (l : Lines) {il : Lines} (hil : f.ilines = il) :
    writeShape l (shapeOfArgs o f) = .undefined
      ∨ ∃ z a d, f = ⟨il, some ⟨l, z, a⟩, none, 0, d⟩ ∧ (d = .absent ∨ ∃ bytes, d = .write l bytes) := by
  unfold writeShape
  split
  next x hx =>
    obtain ⟨z, a, ha, -⟩ := (addrOn_eq_some_iff l x).1 hx
    split
    next hd =>
      rw [Bool.and_eq_true, Bool.or_eq_true, plainFrame_iff, data_isNone_iff, dataOn_write_iff] at hd
      obtain ⟨⟨halt, hdummy⟩, hdata⟩ := hd
      exact .inr ⟨z, a, f.data, by rw [← ha, ← halt, ← hdummy, ← hil], hdata⟩
    · exact .inl rfl
  · exact .inl rfl

theorem data_eq_read {l : Lines} {n : Nat} (h : (shapeOfArgs o f).data = some ⟨l, .read, n + 1⟩) :
    ∃ last : Word, f.data = .read l last ∧ last.toNat = n := by
  unfold shapeOfArgs at h
  cases hd : f.data <;> simp_all

theorem data_eq_write {l : Lines} {n : Nat} (h : (shapeOfArgs o f).data = some ⟨l, .write, n⟩) :
    ∃ bytes, f.data = .write l bytes ∧ bytes.length = n := by
  unfold shapeOfArgs at h
  cases hd : f.data <;> simp_all

theorem idShape_cases {il : Lines} (hil : f.ilines = il) :
    idShape (shapeOfArgs o f) = .undefined ∨ ∃ a, f = ⟨il, some ⟨.one, .a24, a⟩, none, 0, .read .one 7⟩ := by
  unfold idShape
  split
  next h =>
    simp only [Bool.and_eq_true, plainFrame_iff, beq_iff_eq, Option.isSome_iff_exists, addrOn_eq_some_iff] at h
    obtain ⟨⟨⟨⟨halt, hdummy⟩, hsize⟩, x, z, a, ha, -⟩, hdata⟩ := h
    obtain ⟨last, hread, hlast⟩ := data_eq_read hdata
    have hz : z = .a24 := by simpa [shapeOfArgs, ha] using hsize
    have hlast : last = 7 := BitVec.eq_of_toNat_eq hlast
    exact .inr ⟨a, by rw [← halt, ← hdummy, ← hz, ← ha, ← hlast, ← hread, ← hil]⟩
  · exact .inl rfl

theorem burst_cases {il : Lines} (hil : f.ilines = il) (h : (plainFrame (shapeOfArgs o f) && (shapeOfArgs o f).addr.isNone
      && (shapeOfArgs o f).data == some ⟨.one, .write, 2⟩) = true) :
    ∃ b0 b1, f = ⟨il, none, none, 0, .write .one [b0, b1]⟩ := by
  simp only [Bool.and_eq_true, plainFrame_iff, beq_iff_eq] at h
  obtain ⟨⟨⟨halt, hdummy⟩, haddr⟩, hdata⟩ := h
  have haddr : f.addr = none := Option.isNone_iff_eq_none.1 haddr
  obtain ⟨bytes, hwrite, hlen⟩ := data_eq_write hdata
  obtain ⟨b0, b1, rfl⟩ := List.length_eq_two.1 hlen
  exact ⟨b0, b1, by rw [← halt, ← hdummy, ← hwrite, ← haddr, ← hil]⟩

end Phases

/-- The rows of SPI mode. -/
theorem table_of_answerSpi {o : Byte} {f : FrameArgs} (hil : f.ilines = .one) (h : answerSpi (shapeOfArgs o f) ≠ .undefined) :
    (o = 0x9F ∧ ∃ a, f = ⟨.one, some ⟨.one, .a24, a⟩, none, 0, .read .one 7⟩)
      ∨ (o = 0x35 ∧ Bare f)
      ∨ (o = 0x03 ∧ ∃ z a last, f = ⟨.one, some ⟨.one, z, a⟩, none, 0, .read .one last⟩)
      ∨ (o = 0x02 ∧ ∃ z a d, f = ⟨.one, some ⟨.one, z, a⟩, none, 0, d⟩ ∧ (d = .absent ∨ ∃ bs, d = .write .one bs))
      ∨ (o = 0xC0 ∧ ∃ b0 b1, f = ⟨.one, none, none, 0, .write .one [b0, b1]⟩) := by
  have hop : (shapeOfArgs o f).opcode = o := rfl
  simp only [answerSpi, hop, beq_iff_eq] at h
  split_ifs at h with hid henter hbare hread hplain hwrite hburst hframe
  · exact .inl ⟨hid, (idShape_cases hil).resolve_left h⟩
  · exact .inr (.inl ⟨henter, bareFrame_iff.1 hbare⟩)
  · exact absurd rfl h
  · obtain ⟨halt, hdummy⟩ := plainFrame_iff.1 hplain
    obtain ⟨z, a, last, ha, hd⟩ := (readShape_cases .one).resolve_left h
    exact .inr (.inr (.inl ⟨hread, z, a, last, by rw [← ha, ← halt, ← hdummy, ← hd, ← hil]⟩))
  · exact absurd rfl h
  · exact .inr (.inr (.inr (.inl ⟨hwrite, (writeShape_cases .one hil).resolve_left h⟩)))
  · exact .inr (.inr (.inr (.inr ⟨hburst, burst_cases hil hframe⟩)))
  · exact absurd rfl h
  · exact absurd rfl h

/-- The rows of QPI mode. -/
theorem table_of_answerQpi {o : Byte} {f : FrameArgs} {quad : Lines} (hil : f.ilines = quad)
    (h : answerQpi (shapeOfArgs o f) ≠ .undefined) :
    (o = 0xF5 ∧ Bare f)
      ∨ (o = 0xEB ∧ ∃ z a alt last, (∀ x, alt = some x → x.lines = .four) ∧ f = ⟨quad, some ⟨.four, z, a⟩, alt, 6, .read .four last⟩)
      ∨ (o = 0x38 ∧ ∃ z a d, f = ⟨quad, some ⟨.four, z, a⟩, none, 0, d⟩ ∧ (d = .absent ∨ ∃ bs, d = .write .four bs)) := by
  have hop : (shapeOfArgs o f).opcode = o := rfl
  simp only [answerQpi, hop, beq_iff_eq] at h
  split_ifs at h with hexit hbare hread hquad hwrite
  · exact .inl ⟨hexit, bareFrame_iff.1 hbare⟩
  · exact absurd rfl h
  · rw [Bool.and_eq_true, beq_iff_eq, optionalAlt_iff] at hquad
    obtain ⟨hdummy, halt⟩ := hquad
    have hdummy : f.dummy = 6 := BitVec.eq_of_toNat_eq hdummy
    obtain ⟨z, a, last, ha, hd⟩ := (readShape_cases .four).resolve_left h
    exact .inr (.inl ⟨hread, z, a, f.alt, last, halt, by rw [← ha, ← hdummy, ← hd, ← hil]⟩)
  · exact absurd rfl h
  · exact .inr (.inr ⟨hwrite, (writeShape_cases .four hil).resolve_left h⟩)
  · exact absurd rfl h

/-- The device answers no frame but those of the table of R212. -/
theorem tableAnswers_of_answerTo {s : State} {o : Byte} {f : FrameArgs} (h : answerTo s (shapeOfArgs o f) ≠ .undefined) :
    TableAnswers s o f := by
  unfold answerTo devAnswer at h
  have hop : (shapeOfArgs o f).opcode = o := rfl
  have hil : (shapeOfArgs o f).ilines = f.ilines := rfl
  simp only [hop, hil] at h
  split at h
  · exact absurd rfl h
  next hlisten =>
    have hlisten := (listening_iff _ _ _).1 (by simpa using hlisten)
    split at h
    next ho =>
      split at h
      next hb => exact .inr (.inr ⟨hlisten, bareFrame_iff.1 hb, .inl (by simpa using ho)⟩)
      · exact absurd rfl h
    split at h
    next ho =>
      split at h
      next hb =>
        rw [Bool.and_eq_true] at hb
        exact .inr (.inr ⟨hlisten, bareFrame_iff.1 hb.1, .inr ⟨by simpa using ho, hb.2⟩⟩)
      · exact absurd rfl h
    split at h
    next hm =>
      have hone : f.ilines = .one := by
        rcases hlisten with ⟨-, h⟩ | ⟨hq, -⟩
        · exact h
        · cases hm.symm.trans hq
      exact .inl ⟨hm, hone, table_of_answerSpi hone h⟩
    next hm =>
      have hquad : f.ilines = s.par.quadIlines := by
        rcases hlisten with ⟨hq, -⟩ | ⟨-, h⟩
        · cases hm.symm.trans hq
        · exact h
      exact .inr (.inl ⟨hm, hquad, table_of_answerQpi hquad h⟩)
    · exact absurd rfl h

/-! ### What the device does with a frame -/

/-- A whole frame on an idle wire: its data, the device's latch and end, its event. -/
theorem deviceFrame_eq {o : Byte} {f : FrameArgs} {s : State} (hp : s.ph = .idle) (hr : s.par.responsive = true) :
    deviceFrame o f s
      = emit (.frame (frameRecord (shapeOfArgs o f) false false (deviceData (answerTo s (shapeOfArgs o f)) f.data s).1))
          (deviceEnd (answerTo s (shapeOfArgs o f)) (deviceData (answerTo s (shapeOfArgs o f)) f.data s).1
            (deviceLatch (answerTo s (shapeOfArgs o f)) (deviceData (answerTo s (shapeOfArgs o f)) f.data s).2)) := by
  simp only [deviceFrame, hp, hr, bne_self_eq_false, Bool.not_true, Bool.false_eq_true, if_false]

theorem deviceLatch_of_ne {ans : DevAnswer} (h : ans ≠ .undefined) (s : State) : deviceLatch ans s = s :=
  if_neg (by simpa using h)

/-- How many bytes a frame reads. -/
def readCount (d : FrameData) : Nat :=
  match d with
  | .read _ last => last.toNat + 1
  | .absent | .write .. => 0

/-- What moves in a frame that the device does not answer: draws, or the bytes written. -/
def strayBytes (s : State) (d : FrameData) : List Byte :=
  match d with
  | .absent => []
  | .read _ last => (List.range (last.toNat + 1)).map fun i => Config.drawByte (s.draws + i)
  | .write _ bytes => bytes

/-- A frame without an answer stores nothing of what it writes. -/
theorem devWriteBytes_undefined (i : Nat) (bs : List Byte) (s : State) : devWriteBytes .undefined i bs s = s := by
  induction bs generalizing i with
  | nil => rfl
  | cons b rest ih => exact ih (i + 1)

/-- A frame without an answer (42_transaction_primitives.md R211). -/
theorem deviceFrame_unanswered {o : Byte} {f : FrameArgs} {s : State} (hp : s.ph = .idle) (hr : s.par.responsive = true)
    (h : answerTo s (shapeOfArgs o f) = .undefined) :
    deviceFrame o f s = unanswered (shapeOfArgs o f) (strayBytes s f.data) (readCount f.data) s := by
  rw [deviceFrame_eq hp hr, h]
  cases f.data with
  | absent => rfl
  | read n last => rfl
  | write n bytes =>
    simp only [deviceData, devWriteBytes_undefined]
    rfl

theorem answerTo_eq_undefined {s : State} {o : Byte} {f : FrameArgs} (h : ¬TableAnswers s o f) :
    answerTo s (shapeOfArgs o f) = .undefined :=
  not_not.1 fun hne => h (tableAnswers_of_answerTo hne)

/-- The opcodes of 30_encoding.md R130, and those of them that a row of R212 names. -/
abbrev rowOpcodes : List Byte := [0x03, 0x0B, 0xEB, 0x02, 0x38, 0x35, 0xF5, 0x66, 0x99, 0xC0, 0x9F]
abbrev answeredOpcodes : List Byte := [0x03, 0xEB, 0x02, 0x38, 0x35, 0xF5, 0x66, 0x99, 0xC0, 0x9F]

theorem mem_rowOpcodes_of_answered : ∀ o ∈ answeredOpcodes, o ∈ rowOpcodes := by decide

/-- No row of R212 is for an opcode outside 30_encoding.md R130, nor for FAST_READ's. -/
theorem not_tableAnswers_of_opcode {s : State} {o : Byte} {f : FrameArgs}
    (h : o ∉ answeredOpcodes) : ¬TableAnswers s o f := by
  simp only [List.mem_cons, not_or] at h
  unfold TableAnswers
  tauto

/-- No row of R212 is for a device that does not listen on the frame's lines. -/
theorem not_tableAnswers_of_lines {s : State} {o : Byte} {f : FrameArgs}
    (h : s.devMode = .unknown ∨ s.devMode = .spi ∧ f.ilines ≠ .one ∨ s.devMode = .qpi ∧ f.ilines ≠ s.par.quadIlines) :
    ¬TableAnswers s o f := by
  have hdeaf : ¬(s.devMode = .spi ∧ f.ilines = .one ∨ s.devMode = .qpi ∧ f.ilines = s.par.quadIlines) := by
    rcases h with h | h | h <;> simp [h]
  unfold TableAnswers
  tauto

/-- An opcode outside 30_encoding.md R130 is no row, and its frame is read whole. -/
theorem decode_unlisted_opcode {o : Byte} {f : FrameArgs} (hw : f.wf = true)
    (ho : o ∉ rowOpcodes) :
    decode ⟨.opc8, frameBytes o f⟩ = .error (.unlistedOpcode o f) := by
  have hne : ∀ k ∈ rowOpcodes.map BitVec.toNat, o.toNat ≠ k := fun k hk h => ho (by
    obtain ⟨b, hb, rfl⟩ := List.mem_map.1 hk
    exact BitVec.eq_of_toNat_eq h ▸ hb)
  simp only [decode, decodeOpc8, frameBytes_opcode, decodeFrameArgs_frameBytes o f hw]
  split
  case h_12 => rfl
  all_goals
    rename_i hk
    exact absurd hk (hne _ (by decide))

/-- Settles O39: the device answers no frame but the table's, and a frame it does not answer spoils it. -/
theorem unansweredFramesSpoilTheDevice : Obligations.UnansweredFramesSpoilTheDevice := by
  intro s f hf hp hr n moved
  have hn : n = readCount f.data := by
    simp only [n]
    cases f.data <;> rfl
  have hmoved : moved = strayBytes s f.data := by
    simp only [moved, n]
    cases f.data <;> rfl
  have hframe : ∀ o, ¬TableAnswers s o f → deviceFrame o f s = unanswered (shapeOfArgs o f) moved n s := fun o h => by
    rw [hn, hmoved]
    exact deviceFrame_unanswered hp hr (answerTo_eq_undefined h)
  refine ⟨?fastRead, fun o rest hw ho => ?unlisted, fun x hx => ⟨not_tableAnswers_of_lines, fun h => ?row⟩⟩
  case fastRead => exact (runStep_none _ s hf).trans (congrArg _ (hframe 0x0B (not_tableAnswers_of_opcode (by decide))))
  case unlisted =>
    have hstray : deviceFrame o f { s with inputs := rest } = unanswered (shapeOfArgs o f) moved n { s with inputs := rest } := by
      rw [hn, hmoved]
      exact deviceFrame_unanswered (s := { s with inputs := rest }) hp hr
        (answerTo_eq_undefined (not_tableAnswers_of_opcode fun hmem => ho (mem_rowOpcodes_of_answered o hmem)))
    rw [step_cons_unlisted rest hf (decode_unlisted_opcode hw ho)]
    exact congrArg _ hstray
  case row =>
    have hexec : exec x.1 s = runStep (deviceFrame x.2 f) s := by
      fin_cases hx <;> rfl
    rw [hexec, runStep_none _ s hf, hframe x.2 h]

end Sys2Proof.Machine
end

section
/-! PROOF. O36, O37 and O38: what the device does with the frames it answers (42_transaction_primitives.md R212 to R216). -/

namespace Sys2Proof.Machine

/-! ### Frames that are answered -/

/-- A frame the device answers, its data and what the device does with it known. -/
theorem runStep_deviceFrame {o : Byte} {f : FrameArgs} {s : State} {ans : DevAnswer} (hf : s.fault = none) (hp : s.ph = .idle)
    (hr : s.par.responsive = true) (ha : answerTo s (shapeOfArgs o f) = ans) (hne : ans ≠ .undefined) :
    runStep (deviceFrame o f) s
      = .next (emit (.frame (frameRecord (shapeOfArgs o f) false false (deviceData ans f.data s).1))
          (deviceEnd ans (deviceData ans f.data s).1 (deviceData ans f.data s).2)) := by
  rw [runStep_none _ s hf, deviceFrame_eq hp hr, ha, deviceLatch_of_ne hne]

/-- The device listens on these lines (42_transaction_primitives.md R211). -/
abbrev ListensOn (s : State) (il : Lines) : Prop := s.devMode = .spi ∧ il = .one ∨ s.devMode = .qpi ∧ il = s.par.quadIlines

section Answers

variable {s : State} {f : FrameShape} (h : ListensOn s f.ilines)
include h

theorem answerTo_resetEnable (ho : f.opcode = 0x66) (hb : bareFrame f = true) : answerTo s f = .armReset := by
  simp [answerTo, devAnswer, (listening_iff _ _ _).2 h, ho, hb]

theorem answerTo_reset (ho : f.opcode = 0x99) (hb : bareFrame f = true) (ha : s.devResetArmed = true) : answerTo s f = .reset := by
  simp [answerTo, devAnswer, (listening_iff _ _ _).2 h, ho, hb, ha]

/-- An opcode that is no reset's is answered by the rows of the device's mode. -/
theorem answerTo_other (o : Byte) (ho : f.opcode = o) (hne : (o == 0x66) = false ∧ (o == 0x99) = false) :
    answerTo s f = if s.devMode = .spi then answerSpi f else answerQpi f := by
  have hl : listening s.par.quadIlines s.devMode f.ilines = true := (listening_iff _ _ _).2 h
  simp only [answerTo, devAnswer, hl, ho, hne, Bool.not_true, Bool.false_eq_true, if_false]
  rcases h with ⟨hm, -⟩ | ⟨hm, -⟩ <;> simp [hm]

theorem answerTo_spi (hm : s.devMode = .spi) (o : Byte) (ho : f.opcode = o) (hne : (o == 0x66) = false ∧ (o == 0x99) = false) :
    answerTo s f = answerSpi f := by
  rw [answerTo_other h o ho hne, if_pos hm]

theorem answerTo_qpi (hm : s.devMode = .qpi) (o : Byte) (ho : f.opcode = o) (hne : (o == 0x66) = false ∧ (o == 0x99) = false) :
    answerTo s f = answerQpi f := by
  rw [answerTo_other h o ho hne, if_neg (by simp [hm])]

end Answers

/-- Settles O36: each frame is bare, so that only the device's mode and its reset change. -/
theorem deviceModeOpcodes : Obligations.DeviceModeOpcodes := by
  intro s hf hp hr one quad
  refine ⟨fun hm => ?enter, fun hm => ?exit, fun f hmode => ⟨?enable, fun harmed => ?reset⟩⟩
  case enter =>
    have hans : answerTo s (shapeOfArgs 0x35 one) = .enterQuad := answerTo_spi (.inl ⟨hm, rfl⟩) hm 0x35 rfl (by decide)
    exact runStep_deviceFrame hf hp hr hans nofun
  case exit =>
    have hans : answerTo s (shapeOfArgs 0xF5 quad) = .exitQuad := answerTo_qpi (.inr ⟨hm, rfl⟩) hm 0xF5 rfl (by decide)
    exact runStep_deviceFrame hf hp hr hans nofun
  all_goals
    have hdata : f.data = .absent := by rcases hmode with ⟨-, rfl⟩ | ⟨-, rfl⟩ <;> rfl
    have hbare : Bare f := by rcases hmode with ⟨-, rfl⟩ | ⟨-, rfl⟩ <;> rfl
    have hlisten : ListensOn s f.ilines := by
      rcases hmode with ⟨hm, rfl⟩ | ⟨hm, rfl⟩
      · exact .inl ⟨hm, rfl⟩
      · exact .inr ⟨hm, rfl⟩
  case enable =>
    have hans : answerTo s (shapeOfArgs 0x66 f) = .armReset := answerTo_resetEnable hlisten rfl (bareFrame_iff.2 hbare)
    refine (runStep_deviceFrame hf hp hr hans nofun).trans ?_
    rw [hdata]
    rfl
  case reset =>
    have hans : answerTo s (shapeOfArgs 0x99 f) = .reset := answerTo_reset hlisten rfl (bareFrame_iff.2 hbare) harmed
    refine (runStep_deviceFrame hf hp hr hans nofun).trans ?_
    rw [hdata]
    rfl

/-! ### Reads -/

/-- The bytes of a read of the array (42_transaction_primitives.md R213). -/
theorem devBytes_readMem (s : State) (a n d : Nat) : devBytes s (.readMem a) 0 n d = arrayBytes s a n d := by
  simp [devBytes, arrayBytes, devByte]

/-- The bytes of an identification (42_transaction_primitives.md R215). -/
theorem devBytes_readId (s : State) (d : Nat) : devBytes s .readId 0 8 d = s.par.deviceId.toList := by
  apply List.ext_getElem
  · simp [devBytes]
  · intro i hi _
    simp only [devBytes, List.length_map, List.length_range] at hi
    simp [devBytes, devByte, List.getD_eq_getElem?_getD, hi]

/-- Settles O37: the answer to each frame, and the bytes it gives. -/
theorem deviceReadOpcodes : Obligations.DeviceReadOpcodes := by
  intro s a last z alt hf hp hr halt f1 f4 fid n bytes
  refine ⟨fun hm => ?read, fun hm => ?quadRead, fun hm => ?readId⟩
  case read =>
    have hans : answerTo s (shapeOfArgs 0x03 f1) = .readMem a.toNat := answerTo_spi (.inl ⟨hm, rfl⟩) hm 0x03 rfl (by decide)
    refine (runStep_deviceFrame hf hp hr hans nofun).trans ?_
    simp only [f1, deviceData, devBytes_readMem]
    rfl
  case quadRead =>
    have hans : answerTo s (shapeOfArgs 0xEB f4) = .readMem a.toNat := by
      rw [answerTo_qpi (.inr ⟨hm, rfl⟩) hm 0xEB rfl (by decide)]
      have hoptional : optionalAlt (shapeOfArgs 0xEB f4) = true := optionalAlt_iff.2 halt
      have hrow : answerQpi (shapeOfArgs 0xEB f4)
          = if optionalAlt (shapeOfArgs 0xEB f4) then readShape .four (shapeOfArgs 0xEB f4) else .undefined := rfl
      rw [hrow, hoptional]
      rfl
    refine (runStep_deviceFrame hf hp hr hans nofun).trans ?_
    simp only [f4, deviceData, devBytes_readMem]
    rfl
  case readId =>
    have hans : answerTo s (shapeOfArgs 0x9F fid) = .readId := answerTo_spi (.inl ⟨hm, rfl⟩) hm 0x9F rfl (by decide)
    refine (runStep_deviceFrame hf hp hr hans nofun).trans ?_
    simp only [fid, deviceData]
    rw [show (7 : Word).toNat + 1 = 8 from rfl, devBytes_readId]
    rfl

/-! ### Writes -/

theorem devWriteBytes_append (ans : DevAnswer) (i : Nat) (xs ys : List Byte) (s : State) :
    devWriteBytes ans i (xs ++ ys) s = devWriteBytes ans (i + xs.length) ys (devWriteBytes ans i xs s) := by
  induction xs generalizing i s with
  | nil => rfl
  | cons x rest ih =>
    rw [List.length_cons, Nat.add_comm rest.length, ← Nat.add_assoc]
    exact ih (i + 1) _

/-- Bytes within the capacity are stored (42_transaction_primitives.md R214). -/
theorem devWriteBytes_within {a i : Nat} {bs : List Byte} {s : State} (h : bs = [] ∨ a + i + bs.length ≤ capBytes s.par) :
    devWriteBytes (.writeMem a) i bs s = { s with psram := s.psram.writeList (a + i) bs } := by
  induction bs generalizing i s with
  | nil => rfl
  | cons b rest ih =>
    have hfits : a + i + (rest.length + 1) ≤ capBytes s.par := h.resolve_left nofun
    have hbyte : devWriteByte (.writeMem a) i b s = { s with psram := s.psram.write (a + i) b } := if_pos (by omega)
    rw [devWriteBytes, hbyte]
    exact ih (s := { s with psram := s.psram.write (a + i) b }) (.inr (by simp only; omega))

/-- Each byte past the capacity makes every byte of the array unspecified (42_transaction_primitives.md R214). -/
theorem devWriteBytes_past {a i : Nat} {bs : List Byte} {s : State} (h : capBytes s.par ≤ a + i) (hne : bs ≠ []) :
    devWriteBytes (.writeMem a) i bs s = { s with psram := [], psramEpoch := s.psramEpoch + bs.length } := by
  induction bs generalizing i s with
  | nil => exact absurd rfl hne
  | cons b rest ih =>
    have hbyte : devWriteByte (.writeMem a) i b s = spoilPsram s := if_neg (by omega)
    rw [devWriteBytes, hbyte]
    by_cases hrest : rest = []
    · rw [hrest]
      rfl
    · rw [ih (s := spoilPsram s) (i := i + 1) (by simp only [spoilPsram]; omega) hrest, List.length_cons, Nat.add_comm rest.length,
        ← Nat.add_assoc]
      rfl

/-- The bytes of a write from address `a` that lie past the device's capacity. -/
def pastCapacity (s : State) (a n : Nat) : Nat := a + n - max a (capBytes s.par)

/-- A write that reaches past the capacity stores what lies before it, and then loses the array once for each byte past it. -/
theorem devWriteBytes_across {a : Nat} {bs : List Byte} {s : State} (h : pastCapacity s a bs.length ≠ 0) :
    devWriteBytes (.writeMem a) 0 bs s = { s with psram := [], psramEpoch := s.psramEpoch + pastCapacity s a bs.length } := by
  have hpast : pastCapacity s a bs.length = (bs.drop (capBytes s.par - a)).length := by
    rw [pastCapacity, List.length_drop]
    omega
  have hwithin : devWriteBytes (.writeMem a) 0 (bs.take (capBytes s.par - a)) s
      = { s with psram := s.psram.writeList a (bs.take (capBytes s.par - a)) } :=
    devWriteBytes_within (by
      rw [List.take_eq_nil_iff, List.length_take]
      omega)
  have hne : bs.drop (capBytes s.par - a) ≠ [] := fun hnil => h (by rw [hpast, hnil]; rfl)
  have hlen : (bs.take (capBytes s.par - a)).length = capBytes s.par - a := by
    have := List.length_pos_iff.2 hne
    rw [List.length_drop] at this
    rw [List.length_take]
    omega
  rw [← List.take_append_drop (capBytes s.par - a) bs, devWriteBytes_append, hwithin, List.take_append_drop, hpast]
  exact devWriteBytes_past (s := { s with psram := _ }) (by simp only [hlen]; omega) hne

section Write

variable {s : State} {f : FrameArgs} (hf : s.fault = none) (hp : s.ph = .idle) (hr : s.par.responsive = true)
include hf hp hr

/-- A write of the array with a Data phase, on whichever lines. -/
theorem runStep_write {o : Byte} {a : Nat} {l : Lines} {bytes : List Byte} (hans : answerTo s (shapeOfArgs o f) = .writeMem a)
    (hdata : f.data = .write l bytes) :
    (pastCapacity s a bytes.length = 0 →
        runStep (deviceFrame o f) s = .next { framed o f bytes s with psram := s.psram.writeList a bytes })
      ∧ (pastCapacity s a bytes.length ≠ 0 →
        runStep (deviceFrame o f) s
          = .next { framed o f bytes s with psram := [], psramEpoch := s.psramEpoch + pastCapacity s a bytes.length }) := by
  have hrun := runStep_deviceFrame hf hp hr hans nofun
  simp only [hdata, deviceData] at hrun
  constructor
  · intro h
    have hwithin : bytes = [] ∨ a + 0 + bytes.length ≤ capBytes s.par := by
      rw [pastCapacity] at h
      rw [← List.length_eq_zero_iff]
      omega
    rw [hrun, devWriteBytes_within hwithin]
    rfl
  · intro h
    rw [hrun, devWriteBytes_across h]
    rfl

/-- A write of the array without a Data phase. -/
theorem runStep_write_absent {o : Byte} {a : Nat} (hans : answerTo s (shapeOfArgs o f) = .writeMem a) (hdata : f.data = .absent) :
    runStep (deviceFrame o f) s = .next (framed o f [] s) := by
  have hrun := runStep_deviceFrame hf hp hr hans nofun
  rw [hdata] at hrun
  exact hrun

end Write

/-- Settles O38: the answer to each frame; a write stores its bytes or loses the array. -/
theorem deviceWriteOpcodes : Obligations.DeviceWriteOpcodes := by
  intro s a z bytes b0 b1 hf hp hr f1 f4 g1 g4 fb beyond
  refine ⟨fun hm => ?spi, fun hm => ?qpi⟩
  case spi =>
    have hwrite : answerTo s (shapeOfArgs 0x02 f1) = .writeMem a.toNat := answerTo_spi (.inl ⟨hm, rfl⟩) hm 0x02 rfl (by decide)
    have hbare : answerTo s (shapeOfArgs 0x02 g1) = .writeMem a.toNat := answerTo_spi (.inl ⟨hm, rfl⟩) hm 0x02 rfl (by decide)
    have hburst : answerTo s (shapeOfArgs 0xC0 fb) = .setBurst := answerTo_spi (.inl ⟨hm, rfl⟩) hm 0xC0 rfl (by decide)
    obtain ⟨hwithin, hacross⟩ := runStep_write hf hp hr hwrite rfl
    exact ⟨hwithin, hacross, runStep_write_absent hf hp hr hbare rfl, runStep_deviceFrame hf hp hr hburst nofun⟩
  case qpi =>
    have hwrite : answerTo s (shapeOfArgs 0x38 f4) = .writeMem a.toNat := answerTo_qpi (.inr ⟨hm, rfl⟩) hm 0x38 rfl (by decide)
    have hbare : answerTo s (shapeOfArgs 0x38 g4) = .writeMem a.toNat := answerTo_qpi (.inr ⟨hm, rfl⟩) hm 0x38 rfl (by decide)
    obtain ⟨hwithin, hacross⟩ := runStep_write hf hp hr hwrite rfl
    exact ⟨hwithin, hacross, runStep_write_absent hf hp hr hbare rfl⟩

end Sys2Proof.Machine
end

section
/-! PROOF. The frame of a primitive on the wire when no other agent steps: the controller and the device as two halves of a state, the steps
of the wire engine on them, and the waits. -/

namespace Sys2Proof.Machine

/-! ### The device's half of a state -/

/-- The controller of `c` with the device of `d`: what a frame does to the device, and what does it, apart. The straps are the
device's, since its capacity is one of them. -/
def graft (d c : State) : State :=
  { c with
    par := d.par, psram := d.psram, psramEpoch := d.psramEpoch, devMode := d.devMode, devBurst := d.devBurst
    devResetArmed := d.devResetArmed, draws := d.draws }

theorem answerTo_graft (d c : State) (f : FrameShape) : answerTo (graft d c) f = answerTo d f := rfl

theorem deviceLatch_graft (ans : DevAnswer) (d c : State) : deviceLatch ans (graft d c) = graft (deviceLatch ans d) c := by
  unfold deviceLatch
  split <;> rfl

theorem devWriteByte_graft (ans : DevAnswer) (i : Nat) (b : Byte) (d c : State) :
    devWriteByte ans i b (graft d c) = graft (devWriteByte ans i b d) c := by
  cases ans with
  | writeMem a =>
    simp only [devWriteByte]
    have hcap : capBytes (graft d c).par = capBytes d.par := rfl
    rw [hcap]
    split <;> rfl
  | _ => rfl

theorem devWriteBytes_graft (ans : DevAnswer) (i : Nat) (bs : List Byte) (d c : State) :
    devWriteBytes ans i bs (graft d c) = graft (devWriteBytes ans i bs d) c := by
  induction bs generalizing i d with
  | nil => rfl
  | cons b rest ih =>
    rw [devWriteBytes, devWriteByte_graft]
    exact ih (i + 1) _

theorem deviceEnd_graft (ans : DevAnswer) (bs : List Byte) (d c : State) :
    deviceEnd ans bs (graft d c) = graft (deviceEnd ans bs d) c := by
  cases ans <;> rfl

/-- What a frame does to the device does not depend on the controller. -/
theorem deviceAfter_graft (f : FrameShape) (bs : List Byte) (d c : State) :
    deviceAfter f bs (graft d c) = graft (deviceAfter f bs d) c := by
  simp only [deviceAfter, answerTo_graft, deviceLatch_graft, devWriteBytes_graft, deviceEnd_graft]

/-! ### The answer to a frame stays as it is while the frame lasts -/

theorem answerTo_deviceLatch (f : FrameShape) (s : State) : answerTo (deviceLatch (answerTo s f) s) f = answerTo s f := by
  rcases deviceLatch_cases (answerTo s f) s with ⟨hu, h⟩ | ⟨-, h⟩ <;> rw [h]
  rw [hu]
  simp [answerTo, devAnswer, listening]

theorem answerTo_devWriteBytes (f : FrameShape) (ans : DevAnswer) (i : Nat) (bs : List Byte) (s : State) :
    answerTo (devWriteBytes ans i bs s) f = answerTo s f := by
  induction bs generalizing i s with
  | nil => rfl
  | cons b rest ih =>
    rw [devWriteBytes, ih]
    rcases devWriteByte_cases ans i b s with ⟨a, -, -, h⟩ | ⟨a, -, -, h⟩ | h <;> rw [h] <;> rfl

/-! ### A frame on the wire -/

/-- The controller of `c` with a frame on the wire in phase `ph`, the device as in `d`; `moved` bytes are through and `fifo` stands in the
FIFO. -/
def onWire (c d : State) (ph : Phase) (io : LineClock) (fifo moved : List Byte) : State :=
  graft d { c with busy := .one, ph := ph, io := io, fifo := fifo, wireBytes := moved, nCS := false, tcf := ph == .done }

section OnWire

variable (c d : State) {ph : Phase} (io : LineClock) (fifo moved : List Byte)

theorem deviceLatch_onWire (ans : DevAnswer) :
    deviceLatch ans (onWire c d ph io fifo moved) = onWire c (deviceLatch ans d) ph io fifo moved :=
  deviceLatch_graft ..

theorem devWriteByte_onWire (ans : DevAnswer) (i : Nat) (b : Byte) :
    devWriteByte ans i b (onWire c d ph io fifo moved) = onWire c (devWriteByte ans i b d) ph io fifo moved :=
  devWriteByte_graft ..

/-- The last phase is entered: the device acts on the frame. -/
theorem enterPhase_done_onWire :
    enterPhase .done (onWire c d ph io fifo moved)
      = onWire c (deviceEnd (answerTo d c.shape) moved d) .done io fifo moved := by
  have hend : enterPhase .done (onWire c d ph io fifo moved)
      = deviceEnd (answerTo d c.shape) moved (onWire c d .done io fifo moved) := rfl
  rw [hend]
  exact deviceEnd_graft ..

theorem enterPhase_onWire {p : Phase} (h : ph ≠ .done) (hp : p ≠ .done) :
    enterPhase p (onWire c d ph io fifo moved) = onWire c d p io fifo moved := by
  have ht : (ph == .done) = (p == .done) := by simp [h, hp]
  rw [enterPhase, if_neg (by simpa using hp)]
  simp only [onWire, graft, ht]

/-- The phases between the instruction and the data. -/
def Header (p : Phase) : Prop := p = .addr ∨ p = .alt ∨ p = .dummy

/-- How far a phase is from the end of its frame. -/
def phaseRank (p : Phase) : Nat :=
  match p with
  | .idle => 0
  | .done => 1
  | .data => 2
  | .dummy => 3
  | .alt => 4
  | .addr => 5
  | .instr => 6

/-- A frame with `fifo` in the FIFO that has moved nothing, after a phase before its data: in a later one of these phases, at its data,
or, where it has none, complete. -/
inductive Entered (c d : State) (fifo : List Byte) (rank : Nat) : State → Prop
  | header {p : Phase} (io : LineClock) (hp : Header p) (hr : phaseRank p < rank) : Entered c d fifo rank (onWire c d p io fifo [])
  | data (io : LineClock) (hd : c.shape.data.isSome = true) (hr : 2 < rank) : Entered c d fifo rank (onWire c d .data io fifo [])
  | done (io : LineClock) (hd : c.shape.data = none) (hr : 1 < rank) :
    Entered c d fifo rank (onWire c (deviceEnd (answerTo d c.shape) [] d) .done io fifo [])

theorem nextPhase_cases (f : FrameShape) (h : ph = .instr ∨ Header ph) :
    (Header (nextPhase f ph) ∧ phaseRank (nextPhase f ph) < phaseRank ph) ∨ (nextPhase f ph = .data ∧ f.data.isSome = true)
      ∨ (nextPhase f ph = .done ∧ f.data = none) := by
  rcases h with rfl | rfl | rfl | rfl <;> simp only [nextPhase] <;> repeat' split
  all_goals simp_all [Header, phaseRank]

theorem entered_nextPhase (h : ph = .instr ∨ Header ph) :
    Entered c d fifo (phaseRank ph) (enterPhase (nextPhase c.shape ph) (onWire c d ph io fifo [])) := by
  have hdone : ph ≠ .done := by rcases h with rfl | rfl | rfl | rfl <;> nofun
  have hrank : 2 < phaseRank ph := by rcases h with rfl | rfl | rfl | rfl <;> decide
  rcases nextPhase_cases c.shape h with ⟨hp, hr⟩ | ⟨hp, hd⟩ | ⟨hp, hd⟩
  · rw [enterPhase_onWire c d io fifo [] hdone (by rcases hp with hp | hp | hp <;> rw [hp] <;> nofun)]
    exact .header io hp hr
  · rw [hp, enterPhase_onWire c d io fifo [] hdone (p := .data) nofun]
    exact .data io hd hrank
  · rw [hp, enterPhase_done_onWire]
    exact .done io hd (by omega)

end OnWire

/-! ### The wire engine -/

/-- The hardware answers, no abort is requested, no other agent steps, and nothing has halted the operation under way. -/
structure Live (s : State) : Prop where
  responsive : s.par.responsive = true
  abort : crAbort s.cr = false
  alone : Alone s

theorem Live.wireStep {s : State} (h : Live s) : Live (wireStep s) where
  responsive := (congrArg (·.par.responsive) (kept_wireStep s).still :).trans h.responsive
  abort := (kept_wireStep s).abort h.abort
  alone := ⟨(congrArg State.sched (kept_wireStep s).still :).trans h.alone.sched, (kept_wireStep s).halted.trans h.alone.running⟩

section Engine

variable {c d : State} {ph : Phase} {io : LineClock} {fifo moved : List Byte} {b : Byte}

theorem Live.wireStep_instr (h : Live (onWire c d .instr io fifo [])) :
    Entered c (deviceLatch (answerTo d c.shape) d) fifo 6 (Machine.wireStep (onWire c d .instr io fifo [])) := by
  have hstep : Machine.wireStep (onWire c d .instr io fifo [])
      = enterPhase (nextPhase c.shape .instr)
          (onWire c (deviceLatch (answerTo d c.shape) d) .instr (phaseIo (onWire c d .instr io fifo [])) fifo []) := by
    unfold Machine.wireStep
    rw [h.abort, h.responsive]
    exact congrArg (enterPhase _) (deviceLatch_onWire c d (phaseIo (onWire c d .instr io fifo [])) fifo [] _)
  rw [hstep]
  exact entered_nextPhase c _ _ fifo (.inl rfl)

theorem Live.wireStep_header (hp : Header ph) (h : Live (onWire c d ph io fifo [])) :
    Entered c d fifo (phaseRank ph) (Machine.wireStep (onWire c d ph io fifo [])) := by
  have hstep : Machine.wireStep (onWire c d ph io fifo [])
      = enterPhase (nextPhase c.shape ph) (onWire c d ph (phaseIo (onWire c d ph io fifo [])) fifo []) := by
    unfold Machine.wireStep
    rw [h.abort, h.responsive]
    rcases hp with rfl | rfl | rfl <;> rfl
  rw [hstep]
  exact entered_nextPhase c d _ fifo (.inr hp)

/-- A byte of a frame that writes is clocked out of the FIFO and reaches the device. -/
theorem Live.wireStep_write (h : Live (onWire c d .data io (b :: fifo) moved)) {l : Lines} {n : Nat}
    (hu : ccrMapped c.ccr = false) (hd : c.shape.data = some ⟨l, .write, n⟩) :
    ∃ io', Machine.wireStep (onWire c d .data io (b :: fifo) moved)
      = if moved.length + 1 < n then
          onWire c (devWriteByte (answerTo d c.shape) moved.length b d) .data io' fifo (moved ++ [b])
        else
          enterPhase .done (onWire c (devWriteByte (answerTo d c.shape) moved.length b d) .data io' fifo (moved ++ [b])) := by
  have hshape : (onWire c d .data io (b :: fifo) moved).shape.data = some ⟨l, .write, n⟩ := hd
  have hmap : ccrMapped (onWire c d .data io (b :: fifo) moved).ccr = false := hu
  refine ⟨(byteClocks l .write b).getLastD io, ?_⟩
  rw [← devWriteByte_onWire]
  unfold Machine.wireStep
  rw [h.abort, h.responsive]
  simp only [hshape, hmap]
  rfl

/-- A byte of a frame that reads is clocked from the device into the FIFO while that has room. -/
theorem Live.wireStep_read (h : Live (onWire c d .data io fifo moved)) {l : Lines} {n : Nat}
    (hu : ccrMapped c.ccr = false) (hd : c.shape.data = some ⟨l, .read, n⟩) (hroom : fifo.length < d.par.fifoDepth) :
    ∃ io', Machine.wireStep (onWire c d .data io fifo moved)
      = if moved.length + 1 < n then
          onWire c { d with draws := d.draws + 1 } .data io' (fifo ++ [devByte d (answerTo d c.shape) moved.length d.draws])
            (moved ++ [devByte d (answerTo d c.shape) moved.length d.draws])
        else
          enterPhase .done (onWire c { d with draws := d.draws + 1 } .data io'
            (fifo ++ [devByte d (answerTo d c.shape) moved.length d.draws])
            (moved ++ [devByte d (answerTo d c.shape) moved.length d.draws])) := by
  have hshape : (onWire c d .data io fifo moved).shape.data = some ⟨l, .read, n⟩ := hd
  have hmap : ccrMapped (onWire c d .data io fifo moved).ccr = false := hu
  have hfull : ¬(onWire c d .data io fifo moved).par.fifoDepth ≤ (onWire c d .data io fifo moved).fifo.length := Nat.not_le.2 hroom
  refine ⟨(byteClocks l .read (devByte d (answerTo d c.shape) moved.length d.draws)).getLastD io, ?_⟩
  unfold Machine.wireStep
  rw [h.abort, h.responsive]
  simp only [hshape, hmap, wireData, if_neg hfull]
  rfl

/-- A complete frame leaves the wire (42_transaction_primitives.md R185). -/
theorem Live.wireStep_done (h : Live (onWire c d .done io [] moved)) :
    Machine.wireStep (onWire c d .done io [] moved)
      = transferred moved (graft d (emit (.frame (frameRecord c.shape (ccrMapped c.ccr) false moved)) c)) := by
  unfold Machine.wireStep
  rw [h.abort, h.responsive]
  rfl

end Engine

/-! ### Waits -/

/-- At most how many steps of the wire engine end the frame on the wire. -/
def stepsLeft (s : State) : Nat := phaseRank s.ph + (s.dlr.toNat + 1 - s.wireBytes.length)

theorem stepsLeft_onWire (c d : State) (p : Phase) (io : LineClock) (fifo moved : List Byte) :
    stepsLeft (onWire c d p io fifo moved) = phaseRank p + (c.dlr.toNat + 1 - moved.length) := rfl

theorem stepsLeft_le_frameFuel (s : State) : stepsLeft s ≤ frameFuel s := by
  have hrank : phaseRank s.ph ≤ 6 := by cases s.ph <;> decide
  simp only [stepsLeft, frameFuel]
  omega

/-- Each step of the wire engine keeps `I` and brings the end of the frame nearer, until `cond` holds. -/
def Progress (I : State → Prop) (cond : State → Bool) : Prop :=
  ∀ s, Live s → I s → cond s = false → I (wireStep s) ∧ stepsLeft (wireStep s) < stepsLeft s

/-- A wait in which the frame makes progress ends with its condition. -/
theorem Progress.waitLoop {I : State → Prop} {cond : State → Bool} (h : Progress I cond) (w : Wait) {n : Nat} {s : State} (hl : Live s)
    (hs : I s) (hn : stepsLeft s ≤ n) :
    Live (waitLoop cond w n s) ∧ I (waitLoop cond w n s) ∧ cond (waitLoop cond w n s) = true := by
  induction n generalizing s with
  | zero =>
    have hc : cond s = true := Bool.of_not_eq_false fun hc => by
      have := (h s hl hs hc).2
      omega
    rw [waitLoop_of_cond cond w 0 s hl.alone.sched hl.alone.running hc]
    exact ⟨hl, hs, hc⟩
  | succ n ih =>
    cases hc : cond s with
    | true =>
      rw [waitLoop_of_cond cond w (n + 1) s hl.alone.sched hl.alone.running hc]
      exact ⟨hl, hs, hc⟩
    | false =>
      obtain ⟨hi, hlt⟩ := h s hl hs hc
      rw [waitLoop_step cond w n s hl.alone.sched hl.alone.running hc]
      exact ih hl.wireStep hi (by omega)

theorem Progress.waitFor {I : State → Prop} {cond : State → Bool} (h : Progress I cond) (w : Wait) {s : State} (hl : Live s) (hs : I s) :
    Live (waitFor cond w s) ∧ I (waitFor cond w s) ∧ cond (waitFor cond w s) = true := by
  rw [waitFor_responsive cond w s hl.responsive]
  exact h.waitLoop w hl hs (stepsLeft_le_frameFuel s)

/-- The last wait of a primitive: the complete frame leaves the wire. -/
theorem settle_done {c d : State} {io : LineClock} {moved : List Byte} (h : Live (onWire c d .done io [] moved)) :
    settle (onWire c d .done io [] moved)
      = transferred moved (graft d (emit (.frame (frameRecord c.shape (ccrMapped c.ccr) false moved)) c)) := by
  have hl := h.wireStep
  rw [h.wireStep_done] at hl
  rw [settle, waitFor_responsive _ _ _ h.responsive, frameFuel, waitLoop_step _ _ _ _ h.alone.sched h.alone.running rfl, h.wireStep_done,
    waitLoop_of_cond _ _ _ _ hl.alone.sched hl.alone.running rfl]

end Sys2Proof.Machine
end

section
/-! PROOF. How a primitive starts its frame (42_transaction_primitives.md R181, R182): its micro-steps up to the start, in closed form, and
the frame that the registers it has loaded describe (R190 to R205). -/

namespace Sys2Proof.Machine

/-! ### The frame of a mode word -/

/-- An address is sent whole in the width its own value asks for (30_encoding.md R115). -/
theorem sentAddress_asizeOf (a : Word) : sentAddress (asizeOf a.toNat) a = a := by
  refine sentAddress_of_wf (a := ⟨.one, asizeOf a.toNat, a⟩) ?_
  unfold asizeOf
  split
  · rfl
  next h => exact decide_eq_true (Nat.lt_of_not_le h)

/-- The frame of an indirect mode word given by its fields (30_encoding.md R118). -/
theorem shape_tmwPack (s : State) (fm dl : BitVec 2) (dc : BitVec 5) (abl sz al : BitVec 2) (il : Lines) (o : Byte)
    (h : s.ccr = tmwPack fm dl dc abl sz al (lineCode il) o) (hfm : (fm == 0b11) = false) :
    s.shape = ⟨il, o, (linesOf al).map fun l => ⟨l, asizeOfBit (sz.getLsbD 0), sentAddress (asizeOfBit (sz.getLsbD 0)) s.ar⟩,
      (linesOf abl).map fun l => ⟨l, s.abr.extractLsb' 0 8⟩, dc.toNat,
      (linesOf dl).map fun l => ⟨l, if fm == 0b00 then .write else .read, s.dlr.toNat + 1⟩⟩ := by
  have hmap : ccrMapped s.ccr = false := by rw [h, ccrMapped, ccrFm_tmwPack, hfm]
  rw [State.shape, if_neg (by simp [hmap])]
  simp only [shapeOf, h, tmwPack_opcode, tmwPack_il, tmwPack_abl, tmwPack_dummy,
    tmwPack_size, ccrFm_tmwPack, ccrAl_tmwPack, ccrDl_tmwPack, linesOf_lineCode, Option.getD_some]

section Frames

variable (s : State) (o : Byte) (n : Lines) (a len : Word)

theorem shape_rdid : State.shape { s with dlr := 7, ccr := tmwRdidWord, ar := 0 } = rdidFrame := by
  rw [shape_tmwPack _ 0b01 0b01 0 0b00 0b10 0b01 .one 0x9F rfl rfl]
  simp [rdidFrame, linesOf, asizeOfBit, sentAddress]

theorem shape_cmd : State.shape { s with ccr := tmwOfCmd o n } = cmdFrame o n :=
  shape_tmwPack _ 0b00 0b00 0 0b00 0b00 0b00 n o rfl rfl

theorem shape_wr1 : State.shape { s with dlr := 1, ccr := tmwOfWr1 o } = wr1Frame o :=
  shape_tmwPack _ 0b00 0b01 0 0b00 0b00 0b00 .one o rfl rfl

theorem shape_wra :
    State.shape { s with dlr := if len = 0 then s.dlr else len - 1, ccr := tmwOfWra s.par o n a len, ar := a }
      = wraFrame s.par o n a len := by
  rw [shape_tmwPack _ 0b00 (if len == 0 then 0b00 else lineCode n) 0 0b00 (asizeCode (asizeOf a.toNat)) (lineCode n) (ciLines s.par n) o
    rfl rfl, asizeOfBit_asizeCode, linesOf_lineCode, sentAddress_asizeOf]
  by_cases h : len = 0
  · subst h
    rfl
  · have hdl : (if len == 0 then 0b00 else lineCode n) = lineCode n := if_neg (by simpa using h)
    simp only [hdl, if_neg h, linesOf_lineCode, wraFrame, ← toNat_pred h]
    rfl

theorem shape_rd1 (h : len ≠ 0) : State.shape { s with dlr := len - 1, ccr := tmwOfRd1 o } = rd1Frame o len := by
  rw [shape_tmwPack _ 0b01 0b01 0 0b00 0b00 0b00 .one o rfl rfl, rd1Frame, ← toNat_pred h]
  rfl

theorem shape_rda (h : len ≠ 0) :
    State.shape { s with
        dlr := len - 1, ccr := tmwOfRda s.par o n a, ar := a
        abr := if n = .four ∧ s.par.altEn = true then Config.altValue.setWidth 32 else s.abr }
      = rdaFrame s.par o n a len := by
  cases n with
  | one =>
    rw [shape_tmwPack _ 0b01 0b01 0 0b00 (asizeCode (asizeOf a.toNat)) 0b01 .one o rfl rfl, asizeOfBit_asizeCode, sentAddress_asizeOf,
      rdaFrame, ← toNat_pred h]
    rfl
  | four =>
    rw [shape_tmwPack _ 0b01 0b11 Config.dummyQuadRead (altCode s.par) (asizeCode (asizeOf a.toNat)) 0b11 (ciLines s.par .four) o rfl rfl,
      asizeOfBit_asizeCode, sentAddress_asizeOf, rdaFrame, ← toNat_pred h]
    cases halt : s.par.altEn <;> simp [altCode, halt, linesOf, Config.dummyQuadRead]

end Frames

/-! ### The registers are loaded and the frame starts -/

/-- The checks of a primitive have passed: no outcome is recorded, no other agent steps, `SR.BUSY` is 0 and the FIFO empty. `r` holds the
registers as far as they are loaded. -/
structure Armed (r : State) : Prop where
  quiet : Quiet r
  free : r.busy = .zero
  empty : r.fifo = []

/-- The operation under way, `SR.TCF` cleared, the registers of `r`. -/
def primed (r : State) : State := { beginOp r with tcf := false }

/-- The controller of an operation under way that has written the mode word of `r`. -/
def begun (r : State) : State := emit (.tmwWrite r.ccr) (beginOp r)

/-- The frame of the registers of `r` has just started. -/
def started (r : State) : State := onWire (begun r) r .instr r.io [] []

theorem Armed.alone_primed {r : State} (h : Armed r) : Alone (primed r) :=
  ⟨h.quiet.2, (alone_beginOp h.quiet).running⟩

theorem Armed.alone_started {r : State} (h : Armed r) : Alone (started r) :=
  ⟨h.quiet.2, (alone_beginOp h.quiet).running⟩

theorem clearTcf_beginOp (r : State) : clearTcf (beginOp r) = primed r := rfl

theorem writeLength_primed (len : Word) (r : State) :
    writeLength len (primed r) = primed { r with dlr := if len = 0 then r.dlr else len - 1 } := by
  unfold writeLength
  by_cases h : len = 0
  · rw [if_pos (by simpa using h), if_pos h]
  · rw [if_neg (by simpa using h), if_neg h]
    rfl

theorem writeAlt_primed (on : Bool) (r : State) :
    writeAlt on (primed r) = primed { r with abr := if on then Config.altValue.setWidth 32 else r.abr } :=
  writeAlt_eq on (primed r)

/-- A mode word without an Addr phase starts the frame (42_transaction_primitives.md R181). -/
theorem Armed.writeTmw_start {r : State} (h : Armed r) {v : Word} (hi : ccrIndirect v = true) (ha : ccrAl v = 0b00) :
    writeTmw v (primed r) = started { r with ccr := v } := by
  rw [writeTmw_of_free v h.alone_primed.fault h.free]
  have hstart : (ccrIndirect v && ccrAl v == 0b00) = true := by simp [hi, ha]
  have hempty : (primed r).fifo = [] := h.empty
  simp only [modeWordWritten, hstart, if_true, hempty]
  rfl

/-- A mode word with an Addr phase and the write of `AR` start the frame (42_transaction_primitives.md R181). -/
theorem Armed.writeTmw_writeAr {r : State} (h : Armed r) {v : Word} (hi : ccrIndirect v = true) (ha : (ccrAl v == 0b00) = false) (a : Word) :
    writeAr a (writeTmw v (primed r)) = started { r with ccr := v, ar := a } ∧ Alone (writeTmw v (primed r)) := by
  rw [writeTmw_of_free v h.alone_primed.fault h.free]
  have hwait : (ccrIndirect v && ccrAl v == 0b00) = false := by rw [ha, Bool.and_false]
  have hstart : (ccrIndirect v && ccrAl v != 0b00) = true := by rw [hi, bne, ha]; rfl
  have hempty : (primed r).fifo = [] := h.empty
  have hword : modeWordWritten v (primed r) = { primed r with ccr := v, busy := .zero, trace := r.trace ++ [.tmwWrite v] } := by
    simp only [modeWordWritten, hwait, Bool.false_eq_true, if_false]
    rfl
  rw [hword]
  refine ⟨?_, h.quiet.2, h.alone_primed.running⟩
  simp only [writeAr, hstart, if_true, startFrame, hempty]
  rfl

/-! ### The six primitives up to the start -/

section Starts

variable {r : State} (h : Armed r) (ms : List Micro)
include h

theorem Armed.runMicros_checks (hc : Cleared r) : runMicros (commonPre :: clearTcf :: ms) (beginOp r) = runMicros ms (primed r) := by
  have hb : Alone (beginOp r) := alone_beginOp h.quiet
  rw [hb.runMicros_cons hc.beginOp.commonPre hb, hb.runMicros_cons (clearTcf_beginOp r) h.alone_primed]

theorem Armed.runMicros_operand_checks (hc : Cleared r) {ok : Bool} (hok : ok = true) (u : UnsupportedReason) :
    runMicros (commonPre :: require ok u :: clearTcf :: ms) (beginOp r) = runMicros ms (primed r) := by
  have hb : Alone (beginOp r) := alone_beginOp h.quiet
  rw [hb.runMicros_cons hc.beginOp.commonPre hb, hb.runMicros_cons (require_true hok u _) hb,
    hb.runMicros_cons (clearTcf_beginOp r) h.alone_primed]

theorem Armed.runMicros_writeDlr (v : Word) : runMicros (writeDlr v :: ms) (primed r) = runMicros ms (primed { r with dlr := v }) :=
  h.alone_primed.runMicros_cons rfl ⟨h.alone_primed.sched, h.alone_primed.running⟩ ms

theorem Armed.runMicros_writeTmw {v : Word} (hi : ccrIndirect v = true) (ha : ccrAl v = 0b00) :
    runMicros (writeTmw v :: ms) (primed r) = runMicros ms (started { r with ccr := v }) :=
  h.alone_primed.runMicros_cons (h.writeTmw_start hi ha) (Armed.alone_started ⟨h.quiet, h.free, h.empty⟩) ms

theorem Armed.runMicros_writeTmw_writeAr {v : Word} (hi : ccrIndirect v = true) (ha : (ccrAl v == 0b00) = false) (a : Word) :
    runMicros (writeTmw v :: writeAr a :: ms) (primed r) = runMicros ms (started { r with ccr := v, ar := a }) := by
  obtain ⟨hstart, halone⟩ := h.writeTmw_writeAr hi ha a
  rw [h.alone_primed.runMicros_cons rfl halone, halone.runMicros_cons hstart (Armed.alone_started ⟨h.quiet, h.free, h.empty⟩)]

end Starts

section Primitives

variable {s : State} (h : Armed s) (hc : Cleared s)
include h hc

theorem runMicros_rdid :
    runMicros rdidSteps (beginOp s) = runMicros [readIdentification] (started { s with dlr := 7, ccr := tmwRdidWord, ar := 0 }) := by
  have hdlr : Armed { s with dlr := 7 } := ⟨h.quiet, h.free, h.empty⟩
  rw [rdidSteps, h.runMicros_checks _ hc, h.runMicros_writeDlr, hdlr.runMicros_writeTmw_writeAr _ rfl rfl]

theorem runMicros_cmd (o : Byte) (n : Lines) :
    runMicros (cmdSteps o n) (beginOp s)
      = runMicros [waitFor transferComplete .transferComplete, settle] (started { s with ccr := tmwOfCmd o n }) := by
  rw [cmdSteps, h.runMicros_checks _ hc, h.runMicros_writeTmw _ (by simp [tmwOfCmd, ccrIndirect]) (by simp [tmwOfCmd])]

theorem runMicros_wr1 (o : Byte) (p : Word) :
    runMicros (wr1Steps o 2 p) (beginOp s)
      = runMicros [pushPair p, waitFor transferComplete .transferComplete, settle] (started { s with dlr := 1, ccr := tmwOfWr1 o }) := by
  have hdlr : Armed { s with dlr := 1 } := ⟨h.quiet, h.free, h.empty⟩
  rw [wr1Steps, h.runMicros_operand_checks _ hc (ok := (2 : Word) == 2) rfl, h.runMicros_writeDlr,
    hdlr.runMicros_writeTmw _ (by simp [tmwOfWr1, ccrIndirect]) (by simp [tmwOfWr1])]

theorem runMicros_wra (o : Byte) (n : Lines) (a len p : Word) :
    runMicros (wraSteps s.par o n a len p) (beginOp s)
      = runMicros [pushBytes len.toNat p.toNat, waitFor transferComplete .transferComplete, settle]
          (started { s with dlr := if len = 0 then s.dlr else len - 1, ccr := tmwOfWra s.par o n a len, ar := a }) := by
  have hdlr : Armed { s with dlr := if len = 0 then s.dlr else len - 1 } := ⟨h.quiet, h.free, h.empty⟩
  rw [wraSteps, h.runMicros_checks _ hc, h.alone_primed.runMicros_cons (writeLength_primed len s) hdlr.alone_primed,
    hdlr.runMicros_writeTmw_writeAr _ (by simp [tmwOfWra, ccrIndirect]) (by simp [tmwOfWra])]

theorem runMicros_rd1 (o : Byte) (len : Word) (hlen : 1 ≤ len.toNat ∧ len.toNat ≤ 4) :
    runMicros (rd1Steps o len) (beginOp s)
      = runMicros [waitFor transferComplete .transferComplete, assembleWord len.toNat, settle]
          (started { s with dlr := len - 1, ccr := tmwOfRd1 o }) := by
  have hdlr : Armed { s with dlr := len - 1 } := ⟨h.quiet, h.free, h.empty⟩
  rw [rd1Steps, h.runMicros_operand_checks _ hc (by simpa using hlen), h.runMicros_writeDlr,
    hdlr.runMicros_writeTmw _ (by simp [tmwOfRd1, ccrIndirect]) (by simp [tmwOfRd1])]

theorem runMicros_rda (o : Byte) (n : Lines) (a len p : Word) (hlen : len ≠ 0) (hfast : ¬(n = .one ∧ o = 0x0B)) :
    runMicros (rdaSteps s.par o n a len p) (beginOp s)
      = runMicros [drain len.toNat p.toNat, settle]
          (started { s with
            dlr := len - 1, ccr := tmwOfRda s.par o n a, ar := a
            abr := if n = .four ∧ s.par.altEn = true then Config.altValue.setWidth 32 else s.abr }) := by
  have hb : Alone (beginOp s) := alone_beginOp h.quiet
  have hdlr : Armed { s with dlr := len - 1 } := ⟨h.quiet, h.free, h.empty⟩
  have habr : Armed { s with
      dlr := len - 1, abr := if n = .four ∧ s.par.altEn = true then Config.altValue.setWidth 32 else s.abr } :=
    ⟨h.quiet, h.free, h.empty⟩
  have halt : writeAlt (n == .four && s.par.altEn) (primed { s with dlr := len - 1 }) = primed { s with
      dlr := len - 1, abr := if n = .four ∧ s.par.altEn = true then Config.altValue.setWidth 32 else s.abr } := by
    rw [writeAlt_primed]
    simp only [Bool.and_eq_true, beq_iff_eq]
  have hok : (!(n == .one && o == 0x0B)) = true := by
    simp only [Bool.not_eq_true', ← Bool.not_eq_true, Bool.and_eq_true, beq_iff_eq]
    exact hfast
  have hi : ccrIndirect (tmwOfRda s.par o n a) = true := by cases n <;> simp [tmwOfRda, ccrIndirect]
  have ha : (ccrAl (tmwOfRda s.par o n a) == 0b00) = false := by cases n <;> simp [tmwOfRda]
  rw [rdaSteps, hb.runMicros_cons hc.beginOp.commonPre hb, hb.runMicros_cons (require_true (by simpa using hlen) _ _) hb,
    hb.runMicros_cons (require_true hok _ _) hb, hb.runMicros_cons (clearTcf_beginOp s) h.alone_primed,
    h.runMicros_writeDlr, hdlr.alone_primed.runMicros_cons halt habr.alone_primed, habr.runMicros_writeTmw_writeAr _ hi ha]

end Primitives

/-! ### The end of a primitive -/

/-- What the rules say a frame leaves, its device and its controller apart. -/
theorem frameDone_eq_graft (f : FrameShape) (moved toDevice : List Byte) (r : State) :
    frameDone f moved toDevice r
      = transferred moved (graft (deviceAfter f toDevice r) (emit (.frame (frameRecord f false false moved)) (emit (.tmwWrite r.ccr) r))) := by
  have htrace : { r with trace := r.trace ++ [.tmwWrite r.ccr, .frame (frameRecord f false false moved)] }
      = emit (.frame (frameRecord f false false moved)) (emit (.tmwWrite r.ccr) r) := by simp [emit]
  rw [frameDone, htrace]
  exact congrArg (transferred moved) (deviceAfter_graft f toDevice r (emit _ (emit _ r)))

/-- The end of a primitive whose frame has left the wire (42_transaction_primitives.md R185). -/
theorem endOp_transferred {r : State} (hq : Quiet r) (f : FrameShape) (moved toDevice : List Byte) :
    endOp (transferred moved (graft (deviceAfter f toDevice r) (emit (.frame (frameRecord f false false moved)) (begun r))))
      = ended (frameDone f moved toDevice r) := by
  have hrun : halted (transferred moved
      (graft (deviceAfter f toDevice r) (emit (.frame (frameRecord f false false moved)) (begun r)))) = false :=
    (alone_beginOp hq).running
  rw [endOp_of_not_halted _ hrun, frameDone_eq_graft]
  rfl

end Sys2Proof.Machine
end

section
/-! PROOF. O28, O29 and O30: a frame that carries bytes to the device (CMD, WR1, WRA). `Outgoing` says where such a frame stands when so many
bytes have been pushed into the FIFO; the wire engine, the pushes and the waits keep it, and its only end is the rules' own. -/

namespace Sys2Proof.Machine

/-- The registers of `c` describe an indirect frame that carries `bytes` to the device, without a Data phase where there are none. -/
structure Outbound (c : State) (bytes : List Byte) : Prop where
  unmapped : ccrMapped c.ccr = false
  bare : bytes = [] → c.shape.data = none
  data : bytes ≠ [] → ∃ l, c.shape.data = some ⟨l, .write, bytes.length⟩

/-- The device once a frame of shape `f` has begun and carried `bytes` to it. -/
def stored (f : FrameShape) (t : State) (bytes : List Byte) : State :=
  devWriteBytes (answerTo t f) 0 bytes (deviceLatch (answerTo t f) t)

theorem stored_snoc (f : FrameShape) (t : State) (bytes : List Byte) (b : Byte) :
    stored f t (bytes ++ [b]) = devWriteByte (answerTo t f) bytes.length b (stored f t bytes) := by
  rw [stored, devWriteBytes_append, Nat.zero_add]
  rfl

theorem answerTo_stored (f : FrameShape) (t : State) (bytes : List Byte) : answerTo (stored f t bytes) f = answerTo t f := by
  rw [stored, answerTo_devWriteBytes, answerTo_deviceLatch]

theorem stored_par (f : FrameShape) (t : State) (bytes : List Byte) : (stored f t bytes).par = t.par :=
  (congrArg State.par ((kept_deviceLatch _ (.refl t)).trans (kept_devWriteBytes _ 0 bytes _)).still :)

/-- Where a frame that carries `bytes` to the device `t` stands when the first `k` of them have been pushed. -/
inductive Outgoing (c t : State) (bytes : List Byte) (k : Nat) : State → Prop
  | instr (io : LineClock) : Outgoing c t bytes k (onWire c t .instr io (bytes.take k) [])
  | header {p : Phase} (io : LineClock) (hp : Header p) : Outgoing c t bytes k (onWire c (stored c.shape t []) p io (bytes.take k) [])
  | data {i : Nat} (io : LineClock) (hik : i ≤ k) (hi : i < bytes.length) :
    Outgoing c t bytes k (onWire c (stored c.shape t (bytes.take i)) .data io ((bytes.take k).drop i) (bytes.take i))
  | done (io : LineClock) (hk : k = bytes.length) : Outgoing c t bytes k (onWire c (deviceAfter c.shape bytes t) .done io [] bytes)

section Outgoing

variable {c t s : State} {bytes : List Byte} {k : Nat}

/-- The data of an indirect frame has the length that `DLR` gives (30_encoding.md R117). -/
theorem length_of_shape {l : Lines} {d : Dir} {n : Nat} (hu : ccrMapped c.ccr = false) (hd : c.shape.data = some ⟨l, d, n⟩) :
    n = c.dlr.toNat + 1 := by
  have hshape : c.shape = shapeOf c.ccr c.ar c.abr c.dlr := by rw [State.shape, if_neg (by simp [hu])]
  rw [hshape, shapeOf, Option.map_eq_some_iff] at hd
  obtain ⟨_, -, heq⟩ := hd
  exact (congrArg DataShape.len heq).symm

theorem Outbound.entered (h : Outbound c bytes) (hk : k ≤ bytes.length) {rank : Nat}
    (he : Entered c (stored c.shape t []) (bytes.take k) rank s) :
    Outgoing c t bytes k s ∧ stepsLeft s < rank + (c.dlr.toNat + 1) := by
  cases he with
  | header io hp hr => exact ⟨.header io hp, Nat.add_lt_add_right hr _⟩
  | data io hd hr =>
    have hne : bytes ≠ [] := fun hnil => by simp [h.bare hnil] at hd
    exact ⟨.data (i := 0) io (Nat.zero_le k) (List.length_pos_iff.2 hne), Nat.add_lt_add_right hr _⟩
  | done io hd hr =>
    have hnil : bytes = [] := by
      by_contra hne
      obtain ⟨l, hd'⟩ := h.data hne
      rw [hd] at hd'
      cases hd'
    subst hnil
    rw [answerTo_stored, List.take_nil]
    exact ⟨.done io (Nat.le_zero.1 hk), Nat.add_lt_add_right hr _⟩

/-- A step of the wire engine while a byte is there to be clocked out, or all have been pushed. -/
theorem Outbound.wireStep (h : Outbound c bytes) (hl : Live s) (hs : Outgoing c t bytes k s) (hk : k ≤ bytes.length)
    (hf : s.fifo ≠ [] ∨ k = bytes.length ∧ s.ph ≠ .done) :
    Outgoing c t bytes k (wireStep s) ∧ stepsLeft (wireStep s) < stepsLeft s := by
  cases hs with
  | instr io => exact h.entered hk hl.wireStep_instr
  | header io hp => exact h.entered hk (hl.wireStep_header hp)
  | done io hk => exact absurd rfl (hf.resolve_left (not_not.2 rfl)).2
  | @data i io hik hi =>
    have hne : bytes ≠ [] := List.length_pos_iff.1 (by omega)
    obtain ⟨l, hd⟩ := h.data hne
    have hik' : i < k := by
      rcases hf with hf | ⟨hf, -⟩
      · by_contra hge
        exact hf (List.drop_eq_nil_of_le (by rw [List.length_take]; omega))
      · omega
    have hfifo : (bytes.take k).drop i = bytes[i] :: (bytes.take k).drop (i + 1) := by
      rw [List.drop_eq_getElem_cons (by rw [List.length_take]; omega), List.getElem_take]
    have hmoved : bytes.take i ++ [bytes[i]] = bytes.take (i + 1) := List.take_append_getElem hi
    have hcount : (bytes.take i).length = i := by rw [List.length_take]; omega
    rw [hfifo] at hl ⊢
    obtain ⟨io', hstep⟩ := hl.wireStep_write h.unmapped hd
    have hstore : devWriteByte (answerTo (stored c.shape t (bytes.take i)) c.shape) (bytes.take i).length bytes[i]
        (stored c.shape t (bytes.take i)) = stored c.shape t (bytes.take (i + 1)) := by
      rw [answerTo_stored, ← stored_snoc, hmoved]
    rw [hstore, hmoved, hcount] at hstep
    have hlen := length_of_shape h.unmapped hd
    rw [hstep]
    split
    next hlt =>
      refine ⟨.data io' hik' hlt, ?_⟩
      rw [stepsLeft_onWire, stepsLeft_onWire, List.length_take, List.length_take]
      omega
    next hge =>
      have hlast : i + 1 = bytes.length := by omega
      rw [enterPhase_done_onWire, answerTo_stored, List.drop_eq_nil_of_le (by rw [List.length_take]; omega), hlast, List.take_length]
      refine ⟨.done io' (by omega), ?_⟩
      rw [stepsLeft_onWire, stepsLeft_onWire, hcount]
      simp only [phaseRank]
      omega

theorem Outgoing.par (hs : Outgoing c t bytes k s) : s.par = t.par := by
  cases hs with
  | instr => rfl
  | header => exact stored_par c.shape t []
  | data => exact stored_par c.shape t _
  | done => exact (congrArg State.par (kept_deviceEnd _ bytes (.refl _)).still :).trans (stored_par c.shape t bytes)

theorem Outgoing.buf (hs : Outgoing c t bytes k s) : s.buf = c.buf := by
  cases hs <;> rfl

/-- The next `m` bytes are pushed into the FIFO. -/
theorem Outgoing.push (hs : Outgoing c t bytes k s) {m : Nat} (hm : m ≠ 0) (hkm : k + m ≤ bytes.length) :
    Outgoing c t bytes (k + m) { s with fifo := s.fifo ++ (bytes.drop k).take m } := by
  have hpush : bytes.take k ++ (bytes.drop k).take m = bytes.take (k + m) := List.take_add.symm
  cases hs with
  | instr io => exact hpush ▸ .instr io
  | header io hp => exact hpush ▸ .header io hp
  | done io hk => omega
  | @data i io hik hi =>
    have hdrop : (bytes.take k).drop i ++ (bytes.drop k).take m = (bytes.take (k + m)).drop i := by
      rw [← hpush, List.drop_append_of_le_length (by rw [List.length_take]; omega)]
    exact hdrop ▸ .data io (by omega) hi

/-- While the FIFO is full the frame goes on. -/
theorem Outbound.progress_notFull (h : Outbound c bytes) (hk : k ≤ bytes.length) (hdepth : 0 < t.par.fifoDepth) :
    Progress (Outgoing c t bytes k) fifoNotFull := by
  intro s hl hs hfull
  refine h.wireStep hl hs hk (.inl fun hnil => ?_)
  rw [fifoNotFull, fifoLevel, hnil, hs.par] at hfull
  exact absurd hdepth (of_decide_eq_false hfull)

/-- Once all the bytes have been pushed, the transfer is complete exactly in the last phase. -/
theorem Outgoing.complete (hs : Outgoing c t bytes k s) (htcf : transferComplete s = true) :
    ∃ io, s = onWire c (deviceAfter c.shape bytes t) .done io [] bytes := by
  cases hs with
  | instr => cases htcf
  | header io hp => rcases hp with rfl | rfl | rfl <;> cases htcf
  | data => cases htcf
  | done io => exact ⟨io, rfl⟩

/-- While the transfer is not complete the frame, every byte of it pushed, goes on. -/
theorem Outbound.progress_complete (h : Outbound c bytes) : Progress (Outgoing c t bytes bytes.length) transferComplete := by
  intro s hl hs htcf
  have hbusy : s.ph ≠ .done := by
    cases hs with
    | instr => nofun
    | header io hp => rcases hp with rfl | rfl | rfl <;> nofun
    | data => nofun
    | done => cases htcf
  exact h.wireStep hl hs (Nat.le_refl _) (.inr ⟨rfl, hbusy⟩)

/-- The wait for the end of the transfer and the one for the wire: the frame has carried all its bytes, and the device has acted on it. -/
theorem Outbound.transfer (h : Outbound c bytes) (hl : Live s) (hs : Outgoing c t bytes bytes.length s) :
    runMicros [waitFor transferComplete .transferComplete, settle] s
      = transferred bytes (graft (deviceAfter c.shape bytes t) (emit (.frame (frameRecord c.shape false false bytes)) c)) := by
  obtain ⟨hl', hs', htcf⟩ := h.progress_complete.waitFor .transferComplete hl hs
  obtain ⟨io, hdone⟩ := hs'.complete htcf
  rw [hdone] at hl'
  have hlast := hl'.wireStep
  rw [hl'.wireStep_done, h.unmapped] at hlast
  have hsettle := settle_done hl'
  rw [h.unmapped] at hsettle
  rw [hl.alone.runMicros_cons hdone hl'.alone, hl'.alone.runMicros_cons hsettle hlast.alone, runMicros_nil]

theorem bufRead_succ (s : State) (q n : Nat) : bufRead s q (n + 1) = bufByte s q :: bufRead s (q + 1) n := by
  simp [bufRead, List.range_succ_eq_map, Nat.add_assoc, Nat.add_comm 1]

theorem length_bufRead (s : State) (q n : Nat) : (bufRead s q n).length = n := by simp [bufRead]

theorem leBytes_take_one (b : Byte) : (leBytes (b.setWidth 32)).take 1 = [b] := by
  have hlow : (b.setWidth 32).extractLsb' 0 8 = b := by
    refine BitVec.eq_of_toNat_eq ?_
    simp only [BitVec.extractLsb'_toNat, BitVec.toNat_setWidth, Nat.shiftRight_zero]
    omega
  exact congrArg (fun x => [x]) hlow

theorem leBytes_take_two (x y : Byte) : (leBytes ((0 : BitVec 16) ++ y ++ x)).take 2 = [x, y] := by
  have hlow : ((0 : BitVec 16) ++ y ++ x).extractLsb' 0 8 = x := BitVec.extractLsb'_append_eq_right
  have hhigh : ((0 : BitVec 16) ++ y ++ x).extractLsb' 8 8 = y := by
    rw [BitVec.extractLsb'_append_eq_of_le (by omega)]
    exact BitVec.extractLsb'_append_eq_right
  exact congrArg₂ (fun u v => [u, v]) hlow hhigh

/-- A write of `DR` while the FIFO has room. -/
theorem Outgoing.writeDr (hl : Live s) (hs : Outgoing c t bytes k s) {m : Nat} {v : Word} (hm : m ≠ 0) (hkm : k + m ≤ bytes.length)
    (hroom : m ≤ s.par.fifoDepth - s.fifo.length) (hv : (leBytes v).take m = (bytes.drop k).take m) :
    Live (writeDr m v s) ∧ Outgoing c t bytes (k + m) (writeDr m v s) := by
  rcases writeDr_cases m v s with ⟨hfull, -⟩ | ⟨-, heq⟩
  · omega
  · rw [heq, hv]
    exact ⟨⟨hl.responsive, hl.abort, hl.alone.sched, hl.alone.running⟩, hs.push hm hkm⟩

/-- WRA's write loop pushes the bytes of the buffer one by one (42_transaction_primitives.md R198). -/
theorem Outbound.pushBytes (h : Outbound c bytes) (hdepth : 0 < t.par.fifoDepth) {n q : Nat} (hl : Live s)
    (hs : Outgoing c t bytes k s) (hbytes : bytes.drop k = bufRead c q n) (hkn : k + n = bytes.length) :
    Live (pushBytes n q s) ∧ Outgoing c t bytes bytes.length (pushBytes n q s) := by
  induction n generalizing s k q with
  | zero =>
    rw [← hkn]
    exact ⟨hl, hs⟩
  | succ n ih =>
    obtain ⟨hl', hs', hfree⟩ := (h.progress_notFull (by omega) hdepth).waitFor .fifoNotFull hl hs
    have hroom : 1 ≤ (waitFor fifoNotFull .fifoNotFull s).par.fifoDepth - (waitFor fifoNotFull .fifoNotFull s).fifo.length :=
      Nat.sub_pos_of_lt (of_decide_eq_true hfree)
    have hbyte : bufByte (waitFor fifoNotFull .fifoNotFull s) q = bufByte c q := by rw [bufByte, hs'.buf]; rfl
    rw [bufRead_succ] at hbytes
    have hv : (leBytes ((bufByte (waitFor fifoNotFull .fifoNotFull s) q).setWidth 32)).take 1 = (bytes.drop k).take 1 := by
      rw [leBytes_take_one, hbyte, hbytes]
      rfl
    obtain ⟨hl'', hs''⟩ := hs'.writeDr hl' one_ne_zero (by omega) hroom hv
    rw [Machine.pushBytes, hl'.alone.running]
    refine ih hl'' hs'' ?_ (by omega)
    rw [← List.tail_drop, hbytes]
    rfl

end Outgoing

/-! ### CMD, WR1 and WRA -/

theorem Ready.armed {s : State} (h : Ready s) : Armed s := by
  obtain ⟨hquiet, ⟨-, hfifo, -⟩, -, -, -, -, -, hfree⟩ := h
  exact ⟨hquiet, hfree, hfifo⟩

/-- The frame of a ready state's primitive is on the wire. -/
theorem Ready.live_started {s : State} (h : Ready s) (dlr ccr ar abr : Word) :
    Live (started { s with dlr := dlr, ccr := ccr, ar := ar, abr := abr }) := by
  have halone : Alone (started { s with dlr := dlr, ccr := ccr, ar := ar, abr := abr }) :=
    Armed.alone_started ⟨h.armed.quiet, h.armed.free, h.armed.empty⟩
  obtain ⟨-, ⟨-, -, habort⟩, -, hresp, -⟩ := h
  exact ⟨hresp, habort, halone⟩

theorem Ready.depth {s : State} (h : Ready s) : 8 ≤ s.par.fifoDepth := by
  obtain ⟨-, -, ⟨-, -, -, -, -, hdepth⟩, -⟩ := h
  exact hdepth

theorem Outgoing.start (r : State) (bytes : List Byte) : Outgoing (begun r) r bytes 0 (started r) := .instr r.io

/-- The end of a primitive whose frame carries bytes to the device. -/
theorem Outbound.endOp_transfer {r s : State} {bytes : List Byte} (h : Outbound (begun r) bytes) (hq : Quiet r) (hl : Live s)
    (hs : Outgoing (begun r) r bytes bytes.length s) {f : FrameShape} (hf : r.shape = f) :
    endOp (runMicros [waitFor transferComplete .transferComplete, settle] s) = ended (frameDone f bytes bytes r) := by
  subst hf
  rw [h.transfer hl hs]
  exact endOp_transferred hq r.shape bytes bytes

theorem exec_cmd {s : State} (h : Ready s) (o : Byte) (n : Lines) : exec (.cmd o n) s = .next (ended (cmdDone o n s)) := by
  have hshape : State.shape { s with ccr := tmwOfCmd o n } = cmdFrame o n := shape_cmd s o n
  have hout : Outbound (begun { s with ccr := tmwOfCmd o n }) [] :=
    ⟨by simp [begun, beginOp, emit, ccrMapped, tmwOfCmd], fun _ => (congrArg FrameShape.data hshape :), fun hne => absurd rfl hne⟩
  calc exec (.cmd o n) s
      = .next (endOp (runMicros (cmdSteps o n) (beginOp s))) := exec_of_none _ s h.1.1
    _ = .next (ended (cmdDone o n s)) := by
      rw [runMicros_cmd h.armed h.cleared, hout.endOp_transfer h.1 (h.live_started ..) (.start _ []) hshape]
      rfl

/-- What a frame does to the device, its answer known. -/
theorem deviceAfter_of_answerTo {s : State} {f : FrameShape} {ans : DevAnswer} (h : answerTo s f = ans) (bytes : List Byte) :
    deviceAfter f bytes s = deviceEnd ans bytes (devWriteBytes ans 0 bytes (deviceLatch ans s)) := by
  rw [deviceAfter, h]

/-- The device after CMD. -/
theorem cmdDone_of_answerTo {s : State} {o : Byte} {n : Lines} {ans : DevAnswer} (h : answerTo s (cmdFrame o n) = ans) :
    cmdDone o n s = transferred [] (graft (deviceEnd ans [] (deviceLatch ans { s with ccr := tmwOfCmd o n }))
      (emit (.frame (frameRecord (cmdFrame o n) false false [])) (emit (.tmwWrite (tmwOfCmd o n)) { s with ccr := tmwOfCmd o n }))) := by
  have hans : answerTo { s with ccr := tmwOfCmd o n } (cmdFrame o n) = ans := h
  rw [cmdDone, frameDone_eq_graft, deviceAfter_of_answerTo hans]
  rfl

/-- Settles O28: the frame of the instruction alone passes, and the device acts on it by its row of the table. -/
theorem cmdSendsTheInstruction : Obligations.CmdSendsTheInstruction := by
  intro s h
  refine ⟨exec_cmd h, fun hm => ?enter, fun hm => ?exit, fun hm => ?arm, fun hm harmed => ?reset, fun o hm => ?wrongLines⟩
  case enter =>
    have hans : answerTo s (cmdFrame 0x35 .one) = .enterQuad := answerTo_spi (.inl ⟨hm, rfl⟩) hm 0x35 rfl (by decide)
    rw [cmdDone_of_answerTo hans]
    exact ⟨rfl, rfl⟩
  case exit =>
    have hans : answerTo s (cmdFrame 0xF5 s.par.quadIlines) = .exitQuad :=
      answerTo_qpi (.inr ⟨hm, rfl⟩) hm 0xF5 rfl (by decide)
    rw [cmdDone_of_answerTo hans]
    exact ⟨rfl, rfl⟩
  case arm =>
    have hans : answerTo s (cmdFrame 0x66 .one) = .armReset := answerTo_resetEnable (.inl ⟨hm, rfl⟩) rfl rfl
    rw [cmdDone_of_answerTo hans]
    rfl
  case reset =>
    have hans : answerTo s (cmdFrame 0x99 .one) = .reset := answerTo_reset (.inl ⟨hm, rfl⟩) rfl rfl harmed
    rw [cmdDone_of_answerTo hans]
    exact ⟨rfl, rfl, rfl⟩
  case wrongLines =>
    have hans : answerTo s (cmdFrame o .four) = .undefined := by simp [answerTo, devAnswer, listening, hm, cmdFrame]
    rw [cmdDone_of_answerTo hans]
    exact ⟨rfl, rfl⟩

theorem exec_wr1 {s : State} (h : Ready s) (o : Byte) (p : Word) : exec (.wr1 o 2 p) s = .next (ended (wr1Done o p s)) := by
  let r : State := { s with dlr := 1, ccr := tmwOfWr1 o }
  have hshape : r.shape = wr1Frame o := shape_wr1 s o
  have hout : Outbound (begun r) (bufRead s p.toNat 2) :=
    ⟨by simp [r, begun, beginOp, emit, ccrMapped, tmwOfWr1], nofun, fun _ => ⟨.one, (congrArg FrameShape.data hshape :)⟩⟩
  have hlive : Live (started r) := h.live_started ..
  have hroom : 2 ≤ (started r).par.fifoDepth - (started r).fifo.length := Nat.le_trans (by decide) h.depth
  have hpair : (leBytes ((0 : BitVec 16) ++ bufByte (started r) (p.toNat + 1) ++ bufByte (started r) p.toNat)).take 2
      = ((bufRead s p.toNat 2).drop 0).take 2 := leBytes_take_two ..
  obtain ⟨hlive', hpushed⟩ := (Outgoing.start r (bufRead s p.toNat 2)).writeDr hlive two_ne_zero (Nat.le_refl 2) hroom hpair
  have hpush : pushPair p (started r)
      = writeDr 2 ((0 : BitVec 16) ++ bufByte (started r) (p.toNat + 1) ++ bufByte (started r) p.toNat) (started r) := rfl
  calc exec (.wr1 o 2 p) s
      = .next (endOp (runMicros (wr1Steps o 2 p) (beginOp s))) := exec_of_none _ s h.1.1
    _ = .next (ended (wr1Done o p s)) := by
      rw [runMicros_wr1 h.armed h.cleared, hlive.alone.runMicros_cons hpush hlive'.alone, hout.endOp_transfer h.1 hlive' hpushed hshape]
      rfl

/-- Settles O29: the two bytes are pushed as one unit, and the device answers 0xC0 by taking them as its burst configuration. -/
theorem wr1SendsTwoBytes : Obligations.Wr1SendsTwoBytes := by
  intro s o p h
  refine ⟨exec_wr1 h o p, fun hm => ?_⟩
  have hans : answerTo { s with dlr := 1, ccr := tmwOfWr1 0xC0 } (wr1Frame 0xC0) = .setBurst :=
    answerTo_spi (.inl ⟨hm, rfl⟩) hm 0xC0 rfl (by decide)
  rw [wr1Done, frameDone_eq_graft, deviceAfter_of_answerTo hans]
  exact ⟨rfl, hm⟩

/-- Settles O30: every byte of the buffer is pushed behind its wait, and the frame carries them all. -/
theorem wraSendsTheBuffer : Obligations.WraSendsTheBuffer := by
  intro s o n a len p h
  let r : State := { s with dlr := if len = 0 then s.dlr else len - 1, ccr := tmwOfWra s.par o n a len, ar := a }
  let bytes : List Byte := bufRead s p.toNat len.toNat
  have hshape : r.shape = wraFrame s.par o n a len := shape_wra s o n a len
  have hcount : bytes.length = len.toNat := length_bufRead s p.toNat len.toNat
  have hnil : bytes = [] ↔ len = 0 := by
    rw [← List.length_eq_zero_iff, hcount, BitVec.toNat_eq]
    rfl
  have hout : Outbound (begun r) bytes := by
    refine ⟨by simp [r, begun, beginOp, emit, ccrMapped, tmwOfWra], fun hempty => ?_, fun hne => ⟨n, ?_⟩⟩
    · exact (congrArg FrameShape.data hshape :).trans (if_pos (hnil.1 hempty))
    · rw [hcount]
      exact (congrArg FrameShape.data hshape :).trans (if_neg (mt hnil.2 hne))
  have hlive : Live (started r) := h.live_started ..
  have hdepth : 0 < r.par.fifoDepth := Nat.lt_of_lt_of_le (by decide) h.depth
  obtain ⟨hlive', hpushed⟩ := hout.pushBytes hdepth (n := len.toNat) (q := p.toNat) hlive (.start r bytes) rfl
    (by rw [hcount, Nat.zero_add])
  calc exec (.wra o n a len p) s
      = .next (endOp (runMicros (wraSteps s.par o n a len p) (beginOp s))) := exec_of_none _ s h.1.1
    _ = .next (ended (wraDone o n a len p s)) := by
      rw [runMicros_wra h.armed h.cleared, hlive.alone.runMicros_cons rfl hlive'.alone, hout.endOp_transfer h.1 hlive' hpushed hshape]
      rfl

end Sys2Proof.Machine
end

section
/-! PROOF. O27, O31 and O32: a frame that carries bytes from the device (RDID, RD1, RDA). `Incoming` says where such a frame stands when so
many bytes have been popped from the FIFO; the wire engine, the waits and the reads of `DR` keep it. -/

namespace Sys2Proof.Machine

/-! ### The device while it is read -/

/-- The device once a frame of shape `f` has begun and read `i` bytes from it: each byte uses up a draw (notes/assumptions/27.md). -/
def fetched (f : FrameShape) (t : State) (i : Nat) : State := { deviceLatch (answerTo t f) t with draws := t.draws + i }

theorem fetched_zero (f : FrameShape) (t : State) : fetched f t 0 = deviceLatch (answerTo t f) t := by
  rcases deviceLatch_cases (answerTo t f) t with ⟨-, h⟩ | ⟨-, h⟩ <;> rw [fetched, h] <;> rfl

theorem answerTo_fetched (f : FrameShape) (t : State) (i : Nat) : answerTo (fetched f t i) f = answerTo t f :=
  answerTo_deviceLatch f t

theorem fetched_par (f : FrameShape) (t : State) (i : Nat) : (fetched f t i).par = t.par :=
  (congrArg State.par (kept_deviceLatch (answerTo t f) (.refl t)).still :)

/-- A byte does not depend on what the frame has left of the array: one that is not answered spoils it and is answered with draws. -/
theorem devByte_fetched (f : FrameShape) (t : State) (i j d : Nat) :
    devByte (fetched f t i) (answerTo t f) j d = devByte t (answerTo t f) j d := by
  rcases deviceLatch_cases (answerTo t f) t with ⟨hu, -⟩ | ⟨-, h⟩
  · rw [hu]
    rfl
  · rw [fetched, h]
    rfl

theorem length_answered (t : State) (f : FrameShape) (n : Nat) : (answered t f n).length = n := by simp [answered, devBytes]

theorem getElem_answered {t : State} {f : FrameShape} {n i : Nat} (hi : i < (answered t f n).length) :
    (answered t f n)[i] = devByte t (answerTo t f) i (t.draws + i) := by
  simp [answered, devBytes]

/-- The device does nothing at the end of a frame with this answer. -/
def Passive (ans : DevAnswer) : Prop := ∀ bytes d, deviceEnd ans bytes d = d

theorem passive_ite {p : Prop} [Decidable p] {x y : DevAnswer} (hx : p → Passive x) (hy : Passive y) : Passive (if p then x else y) := by
  split
  next h => exact hx h
  next => exact hy

theorem passive_undefined : Passive .undefined := fun _ _ => rfl

theorem passive_idShape (f : FrameShape) : Passive (idShape f) := passive_ite (fun _ _ _ => rfl) passive_undefined

theorem passive_readShape (l : Lines) (f : FrameShape) : Passive (readShape l f) := by
  unfold readShape
  split
  · exact passive_ite (fun _ _ _ => rfl) passive_undefined
  · exact passive_undefined

theorem passive_writeShape (l : Lines) (f : FrameShape) : Passive (writeShape l f) := by
  unfold writeShape
  split
  · exact passive_ite (fun _ _ _ => rfl) passive_undefined
  · exact passive_undefined

/-- The device acts at the end of frames of the instruction alone, and of one that writes; at the end of a frame that reads it does
nothing (42_transaction_primitives.md R212, R216). -/
theorem passive_answerTo {f : FrameShape} {l : Lines} {n : Nat} (h : f.data = some ⟨l, .read, n⟩) (t : State) : Passive (answerTo t f) := by
  have hbare : bareFrame f = false := by simp [bareFrame, h]
  have hburst : (f.data == some ⟨.one, .write, 2⟩) = false := by simp [h]
  unfold answerTo devAnswer
  rw [hbare]
  refine passive_ite (fun _ => passive_undefined) (passive_ite (fun _ => passive_undefined) (passive_ite (fun _ => passive_undefined) ?_))
  cases t.devMode with
  | unknown => exact passive_undefined
  | spi =>
    simp only [answerSpi, hbare, hburst, Bool.and_false]
    exact passive_ite (fun _ => passive_idShape f) (passive_ite (fun _ => passive_undefined)
      (passive_ite (fun _ => passive_ite (fun _ => passive_readShape .one f) passive_undefined)
        (passive_ite (fun _ => passive_writeShape .one f) (passive_ite (fun _ => passive_undefined) passive_undefined))))
  | qpi =>
    simp only [answerQpi, hbare]
    exact passive_ite (fun _ => passive_undefined)
      (passive_ite (fun _ => passive_ite (fun _ => passive_readShape .four f) passive_undefined)
        (passive_ite (fun _ => passive_writeShape .four f) passive_undefined))

/-- A frame that reads leaves the device as it was, or spoiled. -/
theorem deviceAfter_of_read {t : State} {f : FrameShape} {l : Lines} {n : Nat} (h : f.data = some ⟨l, .read, n⟩) :
    deviceAfter f [] t = deviceLatch (answerTo t f) t := passive_answerTo h t [] _

/-! ### The frame -/

/-- The registers of `c` describe an indirect frame that reads `n` bytes. -/
structure Inbound (c : State) (n : Nat) : Prop where
  unmapped : ccrMapped c.ccr = false
  data : ∃ l, c.shape.data = some ⟨l, .read, n⟩

/-- Where a frame that reads `bytes` from the device `t` stands when the first `k` of them have been popped. -/
inductive Incoming (c t : State) (bytes : List Byte) (k : Nat) : State → Prop
  | instr (io : LineClock) (hk : k = 0) : Incoming c t bytes k (onWire c t .instr io [] [])
  | header {p : Phase} (io : LineClock) (hp : Header p) (hk : k = 0) : Incoming c t bytes k (onWire c (fetched c.shape t 0) p io [] [])
  | data {i : Nat} (io : LineClock) (hki : k ≤ i) (hi : i < bytes.length) :
    Incoming c t bytes k (onWire c (fetched c.shape t i) .data io ((bytes.take i).drop k) (bytes.take i))
  | done (io : LineClock) (hk : k ≤ bytes.length) :
    Incoming c t bytes k (onWire c (fetched c.shape t bytes.length) .done io (bytes.drop k) bytes)

section Incoming

variable {c t s : State} {bytes : List Byte} {n k m : Nat}

theorem Inbound.length (h : Inbound c n) : n = c.dlr.toNat + 1 := by
  obtain ⟨l, hd⟩ := h.data
  exact length_of_shape h.unmapped hd

theorem Inbound.entered (h : Inbound c n) {rank : Nat} (he : Entered c (fetched c.shape t 0) [] rank s) :
    Incoming c t (answered t c.shape n) 0 s ∧ stepsLeft s < rank + (c.dlr.toNat + 1) := by
  have hn := h.length
  cases he with
  | header io hp hr => exact ⟨.header io hp rfl, Nat.add_lt_add_right hr _⟩
  | data io hd hr => exact ⟨.data (i := 0) io (Nat.le_refl 0) (by rw [length_answered]; omega), Nat.add_lt_add_right hr _⟩
  | done io hd hr =>
    obtain ⟨l, hd'⟩ := h.data
    rw [hd] at hd'
    cases hd'

theorem Incoming.running (hs : Incoming c t bytes k s) : s.ph ≠ .idle := by
  cases hs with
  | instr => nofun
  | header io hp => rcases hp with rfl | rfl | rfl <;> nofun
  | data => nofun
  | done => nofun

/-- A step of the wire engine before the last phase, while the FIFO has room. -/
theorem Inbound.wireStep (h : Inbound c n) (hl : Live s) (hs : Incoming c t (answered t c.shape n) k s) (hp : s.ph ≠ .done)
    (hroom : s.fifo.length < t.par.fifoDepth) :
    Incoming c t (answered t c.shape n) k (wireStep s) ∧ stepsLeft (wireStep s) < stepsLeft s := by
  cases hs with
  | instr io hk =>
    subst hk
    have he := hl.wireStep_instr
    rw [← fetched_zero] at he
    exact h.entered he
  | header io hheader hk =>
    subst hk
    exact h.entered (hl.wireStep_header hheader)
  | done => exact absurd rfl hp
  | @data i io hki hi =>
    obtain ⟨l, hd⟩ := h.data
    have hlen := h.length
    have hn := length_answered t c.shape n
    have hcount : ((answered t c.shape n).take i).length = i := by rw [List.length_take]; omega
    obtain ⟨io', hstep⟩ := hl.wireStep_read h.unmapped hd (by rwa [fetched_par])
    have hbyte : devByte (fetched c.shape t i) (answerTo (fetched c.shape t i) c.shape) ((answered t c.shape n).take i).length
        (fetched c.shape t i).draws = (answered t c.shape n)[i] := by
      rw [answerTo_fetched, devByte_fetched, hcount, getElem_answered]
      rfl
    have hmoved : (answered t c.shape n).take i ++ [(answered t c.shape n)[i]] = (answered t c.shape n).take (i + 1) :=
      List.take_append_getElem hi
    have hfifo : ((answered t c.shape n).take i).drop k ++ [(answered t c.shape n)[i]] = ((answered t c.shape n).take (i + 1)).drop k := by
      rw [← hmoved, List.drop_append_of_le_length (by omega)]
    have hdraw : { fetched c.shape t i with draws := (fetched c.shape t i).draws + 1 } = fetched c.shape t (i + 1) := rfl
    rw [hbyte, hmoved, hfifo, hcount, hdraw] at hstep
    rw [hstep]
    split
    next hlt =>
      refine ⟨.data io' (by omega) (by omega), ?_⟩
      rw [stepsLeft_onWire, stepsLeft_onWire, List.length_take, List.length_take]
      omega
    next hge =>
      have hlast : i + 1 = (answered t c.shape n).length := by omega
      rw [enterPhase_done_onWire, passive_answerTo hd, hlast, List.take_length]
      refine ⟨.done io' (by omega), ?_⟩
      rw [stepsLeft_onWire, stepsLeft_onWire, hcount]
      simp only [phaseRank]
      omega

/-- `m` bytes stand in the FIFO: the conditions of the two waits before a read of `DR` (10_state.md R44). -/
def fifoHolds (m : Nat) (s : State) : Bool := m ≤ fifoLevel s

/-- While fewer than `m` bytes stand in the FIFO of a frame that has `m` left, the frame goes on. -/
theorem Inbound.progress_fifoHolds (h : Inbound c n) (hkm : k + m ≤ n) (hm : m ≤ t.par.fifoDepth) :
    Progress (Incoming c t (answered t c.shape n) k) (fifoHolds m) := by
  intro s hl hs hfew
  have hshort : s.fifo.length < m := Nat.lt_of_not_le (of_decide_eq_false hfew)
  refine h.wireStep hl hs ?_ (Nat.lt_of_lt_of_le hshort hm)
  cases hs with
  | instr => nofun
  | header io hp => rcases hp with rfl | rfl | rfl <;> nofun
  | data => nofun
  | done =>
    change ((answered t c.shape n).drop k).length < m at hshort
    rw [List.length_drop, length_answered] at hshort
    omega

/-- A frame that the FIFO can hold whole goes on until it is complete. -/
theorem Inbound.progress_complete (h : Inbound c n) (hn : n < t.par.fifoDepth) :
    Progress (Incoming c t (answered t c.shape n) 0) transferComplete := by
  intro s hl hs htcf
  have hlen := length_answered t c.shape n
  cases hs with
  | instr io hk => exact h.wireStep hl (.instr io hk) nofun (Nat.zero_lt_of_lt hn)
  | header io hp hk =>
    exact h.wireStep hl (.header io hp hk) (by rcases hp with rfl | rfl | rfl <;> nofun) (Nat.zero_lt_of_lt hn)
  | @data i io hki hi =>
    refine h.wireStep hl (.data io hki hi) nofun ?_
    change (((answered t c.shape n).take i).drop 0).length < _
    rw [List.drop_zero, List.length_take]
    omega
  | done => cases htcf

/-! ### Reads of `DR` -/

/-- The first bytes of the FIFO are the next ones of the frame. -/
theorem Incoming.take_fifo (hs : Incoming c t bytes k s) (hlevel : m ≤ s.fifo.length) : s.fifo.take m = (bytes.drop k).take m := by
  cases hs with
  | instr io hk | header io hp hk =>
    obtain rfl : m = 0 := Nat.le_zero.1 hlevel
    rfl
  | @data i io hki hi =>
    change m ≤ ((bytes.take i).drop k).length at hlevel
    rw [List.length_drop, List.length_take] at hlevel
    change ((bytes.take i).drop k).take m = _
    rw [List.drop_take, List.take_take, Nat.min_eq_left (by omega)]
  | done => rfl

/-- Bytes are popped from the FIFO. -/
theorem Incoming.pop (hs : Incoming c t bytes k s) (hm : m ≠ 0) (hlevel : m ≤ s.fifo.length) :
    Incoming c t bytes (k + m) { s with fifo := s.fifo.drop m } := by
  cases hs with
  | instr io hk | header io hp hk => exact absurd (Nat.le_zero.1 hlevel) hm
  | @data i io hki hi =>
    change m ≤ ((bytes.take i).drop k).length at hlevel
    rw [List.length_drop, List.length_take] at hlevel
    exact (List.drop_drop (l := bytes.take i) (i := m) (j := k)) ▸ .data io (by omega) hi
  | done io hk =>
    change m ≤ (bytes.drop k).length at hlevel
    rw [List.length_drop] at hlevel
    exact (List.drop_drop (l := bytes) (i := m) (j := k)) ▸ .done io (by omega)

/-- A read of `DR` that the FIFO allows takes the next bytes of the frame. -/
theorem Incoming.readDr (hl : Live s) (hs : Incoming c t bytes k s) (hm : m ≠ 0) (hlevel : m ≤ s.fifo.length) :
    (readDr m s).1 = leWord ((bytes.drop k).take m) ∧ Live (readDr m s).2 ∧ Incoming c t bytes (k + m) (readDr m s).2 := by
  rcases readDr_cases m s with ⟨hfew, -⟩ | ⟨-, heq⟩
  · omega
  have hbusy : refreshBusy { s with fifo := s.fifo.drop m } = { s with fifo := s.fifo.drop m } := by
    rw [refreshBusy_eq, if_neg fun hidle => hs.running hidle.2.1]
  rw [heq, hbusy, hs.take_fifo hlevel]
  exact ⟨rfl, ⟨hl.responsive, hl.abort, hl.alone.sched, hl.alone.running⟩, hs.pop hm hlevel⟩

/-- A read of `DR` behind its wait takes the next bytes of the frame. -/
theorem Inbound.waitFor_readDr (h : Inbound c n) (hl : Live s) (hs : Incoming c t (answered t c.shape n) k s) (hm : m ≠ 0)
    (hkm : k + m ≤ n) (hdepth : m ≤ t.par.fifoDepth) (w : Wait) :
    Live (waitFor (fifoHolds m) w s) ∧ (readDr m (waitFor (fifoHolds m) w s)).1 = leWord (((answered t c.shape n).drop k).take m)
      ∧ Live (readDr m (waitFor (fifoHolds m) w s)).2
      ∧ Incoming c t (answered t c.shape n) (k + m) (readDr m (waitFor (fifoHolds m) w s)).2 := by
  obtain ⟨hl', hs', hholds⟩ := (h.progress_fifoHolds hkm hdepth).waitFor w hl hs
  exact ⟨hl', hs'.readDr hl' hm (of_decide_eq_true hholds)⟩

/-! ### The reads of the primitives -/

theorem leWord_singleton (b : Byte) : (leWord [b]).extractLsb' 0 8 = b := BitVec.extractLsb'_append_eq_right

theorem leBytes_leWord {bs : List Byte} (h : bs.length = 4) : leBytes (leWord bs) = bs := by
  obtain ⟨b₀, b₁, b₂, b₃, rfl⟩ := List.length_eq_four.1 h
  have h₀ : (b₃ ++ b₂ ++ b₁ ++ b₀).extractLsb' 0 8 = b₀ := BitVec.extractLsb'_append_eq_right
  have h₁ : (b₃ ++ b₂ ++ b₁ ++ b₀).extractLsb' 8 8 = b₁ := by
    rw [BitVec.extractLsb'_append_eq_of_le (by omega)]
    exact BitVec.extractLsb'_append_eq_right
  have h₂ : (b₃ ++ b₂ ++ b₁ ++ b₀).extractLsb' 16 8 = b₂ := by
    rw [BitVec.extractLsb'_append_eq_of_le (by omega), BitVec.extractLsb'_append_eq_of_le (by omega)]
    exact BitVec.extractLsb'_append_eq_right
  have h₃ : (b₃ ++ b₂ ++ b₁ ++ b₀).extractLsb' 24 8 = b₃ := by
    rw [BitVec.extractLsb'_append_eq_of_le (by omega), BitVec.extractLsb'_append_eq_of_le (by omega)]
    exact BitVec.extractLsb'_append_eq_left
  exact congrArg₂ List.cons h₀ (congrArg₂ List.cons h₁ (congrArg₂ List.cons h₂ (congrArg₂ List.cons h₃ rfl)))

theorem Live.not_halted (h : Live s) : ¬halted s = true := Bool.not_eq_true _ ▸ h.alone.running

/-- A number of reads of `DR` as one byte give as many bytes of the frame (42_transaction_primitives.md R190). -/
theorem Inbound.takeBytes (h : Inbound c n) (hdepth : 4 ≤ t.par.fifoDepth) (hl : Live s) (hs : Incoming c t (answered t c.shape n) k s)
    (hkm : k + m ≤ n) :
    (takeBytes m s).1 = ((answered t c.shape n).drop k).take m ∧ Live (takeBytes m s).2
      ∧ Incoming c t (answered t c.shape n) (k + m) (takeBytes m s).2 := by
  induction m generalizing s k with
  | zero => exact ⟨rfl, hl, hs⟩
  | succ m ih =>
    obtain ⟨hl', hbyte, hl'', hs''⟩ := h.waitFor_readDr hl hs one_ne_zero (by omega) (by omega) .fifoByteReady
    obtain ⟨hrest, hl''', hs'''⟩ := ih hl'' hs'' (by omega)
    have hk : k < (answered t c.shape n).length := by rw [length_answered]; omega
    have hone : ((answered t c.shape n).drop k).take 1 = [(answered t c.shape n)[k]] := by
      rw [List.drop_eq_getElem_cons hk, List.take_one]
      rfl
    have hstep : Machine.takeBytes (m + 1) s
        = ((readDr 1 (waitFor (fifoHolds 1) .fifoByteReady s)).1.extractLsb' 0 8
            :: (Machine.takeBytes m (readDr 1 (waitFor (fifoHolds 1) .fifoByteReady s)).2).1,
          (Machine.takeBytes m (readDr 1 (waitFor (fifoHolds 1) .fifoByteReady s)).2).2) :=
      if_neg hl'.not_halted
    rw [hstep, hbyte, hone, leWord_singleton, hrest]
    refine ⟨?_, hl''', by rwa [Nat.add_assoc, Nat.add_comm 1 m] at hs'''⟩
    rw [List.drop_eq_getElem_cons hk, List.take_succ_cons]

theorem Incoming.opWord (hs : Incoming c t bytes k s) (w : Word) : Incoming { c with opWord := w } t bytes k { s with opWord := w } := by
  have hshape : State.shape { c with opWord := w } = c.shape := rfl
  cases hs with
  | instr io hk => exact .instr io hk
  | header io hp hk => exact hshape ▸ .header (c := { c with opWord := w }) io hp hk
  | data io hki hi => exact hshape ▸ .data (c := { c with opWord := w }) io hki hi
  | done io hk => exact hshape ▸ .done (c := { c with opWord := w }) io hk

theorem Incoming.bufWrite (hs : Incoming c t bytes k s) (q : Nat) (bs : List Byte) :
    Incoming (bufWrite q bs c) t bytes k (bufWrite q bs s) := by
  have hshape : (Machine.bufWrite q bs c).shape = c.shape := rfl
  cases hs with
  | instr io hk => exact .instr io hk
  | header io hp hk => exact hshape ▸ .header (c := Machine.bufWrite q bs c) io hp hk
  | data io hki hi => exact hshape ▸ .data (c := Machine.bufWrite q bs c) io hki hi
  | done io hk => exact hshape ▸ .done (c := Machine.bufWrite q bs c) io hk

theorem Inbound.takeBytes_all (h : Inbound c n) (hdepth : 4 ≤ t.par.fifoDepth) (hl : Live s)
    (hs : Incoming c t (answered t c.shape n) 0 s) :
    (Machine.takeBytes n s).1 = answered t c.shape n ∧ Live (Machine.takeBytes n s).2
      ∧ Incoming c t (answered t c.shape n) n (Machine.takeBytes n s).2 := by
  have htaken := h.takeBytes (m := n) hdepth hl hs (by omega)
  rwa [List.drop_zero, List.take_of_length_le (by rw [length_answered]), Nat.zero_add] at htaken

/-- RD1's result: the bytes of the frame, the first one lowest (42_transaction_primitives.md R200). -/
theorem Inbound.assembleWord (h : Inbound c n) (hdepth : 4 ≤ t.par.fifoDepth) (hl : Live s)
    (hs : Incoming c t (answered t c.shape n) 0 s) :
    Live (Machine.assembleWord n s)
      ∧ Incoming { c with opWord := leWord (answered t c.shape n) } t (answered t c.shape n) n (Machine.assembleWord n s) := by
  obtain ⟨htaken, hl', hs'⟩ := h.takeBytes_all hdepth hl hs
  have hword : Machine.assembleWord n s = { (Machine.takeBytes n s).2 with opWord := leWord (answered t c.shape n) } := by
    rw [Machine.assembleWord, if_neg hl'.not_halted, htaken]
  rw [hword]
  exact ⟨⟨hl'.responsive, hl'.abort, hl'.alone.sched, hl'.alone.running⟩, hs'.opWord _⟩

theorem bufWrite_append (q : Nat) (xs ys : List Byte) (c : State) :
    bufWrite q (xs ++ ys) c = bufWrite (q + xs.length) ys (bufWrite q xs c) :=
  congrArg (fun b => { c with buf := b }) (Memory.writeList_append c.buf q xs ys)

/-- The first `k` bytes of the frame have been popped, and stored from pointer `p`. -/
structure Drained (c t : State) (bytes : List Byte) (p k : Nat) (s : State) : Prop where
  live : Live s
  stands : Incoming (Machine.bufWrite p (bytes.take k) c) t bytes k s

/-- A read of `DR` behind its wait, and its bytes stored. -/
theorem Drained.next {p : Nat} (h : Inbound c n) (hd : Drained c t (answered t c.shape n) p k s) (hm : m ≠ 0) (hkm : k + m ≤ n)
    (hdepth : m ≤ t.par.fifoDepth) (w : Wait) :
    Live (waitFor (fifoHolds m) w s)
      ∧ (readDr m (waitFor (fifoHolds m) w s)).1 = leWord (((answered t c.shape n).drop k).take m)
      ∧ Drained c t (answered t c.shape n) p (k + m)
          (Machine.bufWrite (p + k) (((answered t c.shape n).drop k).take m) (readDr m (waitFor (fifoHolds m) w s)).2) := by
  have h' : Inbound (Machine.bufWrite p ((answered t c.shape n).take k) c) n := ⟨h.unmapped, h.data⟩
  obtain ⟨hl', hword, hl'', hs''⟩ := h'.waitFor_readDr hd.live hd.stands hm hkm hdepth w
  refine ⟨hl', hword, ⟨hl''.responsive, hl''.abort, hl''.alone.sched, hl''.alone.running⟩, ?_⟩
  have hcount : ((answered t c.shape n).take k).length = k := by rw [List.length_take, length_answered]; omega
  have hbuf : Machine.bufWrite (p + k) (((answered t c.shape n).drop k).take m) (Machine.bufWrite p ((answered t c.shape n).take k) c)
      = Machine.bufWrite p ((answered t c.shape n).take (k + m)) c := by
    rw [List.take_add, bufWrite_append, hcount]
  exact hbuf ▸ hs''.bufWrite (p + k) (((answered t c.shape n).drop k).take m)

theorem Drained.words {p j : Nat} (h : Inbound c n) (hdepth : 4 ≤ t.par.fifoDepth) (hd : Drained c t (answered t c.shape n) p k s)
    (hkj : k + 4 * j ≤ n) : Drained c t (answered t c.shape n) p (k + 4 * j) (drainWords j (p + k) s) := by
  induction j generalizing s k with
  | zero => exact hd
  | succ j ih =>
    obtain ⟨hl', hword, hd'⟩ := hd.next h (m := 4) (by decide) (by omega) hdepth .fifoWordReady
    have hfour : leBytes (leWord (((answered t c.shape n).drop k).take 4)) = ((answered t c.shape n).drop k).take 4 :=
      leBytes_leWord (by rw [List.length_take, List.length_drop, length_answered]; omega)
    rw [← hfour, ← hword] at hd'
    have hstep : drainWords (j + 1) (p + k) s
        = drainWords j (p + (k + 4)) (Machine.bufWrite (p + k) (leBytes (readDr 4 (waitFor (fifoHolds 4) .fifoWordReady s)).1)
            (readDr 4 (waitFor (fifoHolds 4) .fifoWordReady s)).2) :=
      if_neg hl'.not_halted
    have hcount : k + 4 * (j + 1) = k + 4 + 4 * j := by omega
    rw [hstep, hcount]
    exact ih hd' (by omega)

theorem Drained.singles {p j : Nat} (h : Inbound c n) (hdepth : 4 ≤ t.par.fifoDepth) (hd : Drained c t (answered t c.shape n) p k s)
    (hkj : k + j ≤ n) : Drained c t (answered t c.shape n) p (k + j) (drainBytes j (p + k) s) := by
  induction j generalizing s k with
  | zero => exact hd
  | succ j ih =>
    obtain ⟨hl', hword, hd'⟩ := hd.next h one_ne_zero (by omega) (by omega) .fifoByteReady
    have hk : k < (answered t c.shape n).length := by rw [length_answered]; omega
    have hone : ((answered t c.shape n).drop k).take 1 = [(leWord (((answered t c.shape n).drop k).take 1)).extractLsb' 0 8] := by
      rw [List.drop_eq_getElem_cons hk]
      exact congrArg (fun b => [b]) (leWord_singleton _).symm
    rw [hone, ← hword] at hd'
    have hstep : drainBytes (j + 1) (p + k) s
        = drainBytes j (p + (k + 1)) (Machine.bufWrite (p + k) [(readDr 1 (waitFor (fifoHolds 1) .fifoByteReady s)).1.extractLsb' 0 8]
            (readDr 1 (waitFor (fifoHolds 1) .fifoByteReady s)).2) :=
      if_neg hl'.not_halted
    have hcount : k + (j + 1) = k + 1 + j := by omega
    rw [hstep, hcount]
    exact ih hd' (by omega)

/-- The drain stores every byte of the frame in its order, by words where the buffer is word-aligned (42_transaction_primitives.md
R203). -/
theorem Drained.drain {p : Nat} (h : Inbound c n) (hdepth : 4 ≤ t.par.fifoDepth) (hd : Drained c t (answered t c.shape n) p 0 s) :
    Drained c t (answered t c.shape n) p n (drain n p s) := by
  unfold Machine.drain
  split
  next =>
    have hwords := hd.words h hdepth (j := n / 4) (by omega)
    rw [Nat.zero_add] at hwords
    have hbytes := hwords.singles h hdepth (j := n % 4) (by omega)
    rw [Nat.div_add_mod] at hbytes
    change Drained c t _ p n (if halted (drainWords (n / 4) (p + 0) s) then _ else _)
    rw [if_neg hwords.live.not_halted]
    exact hbytes
  next =>
    have hbytes := hd.singles h hdepth (j := n) (by omega)
    rwa [Nat.zero_add] at hbytes

/-- The last wait: a frame whose bytes have all been popped is complete and leaves the wire. -/
theorem Inbound.settle (h : Inbound c n) (hl : Live s) (hs : Incoming c t (answered t c.shape n) n s) :
    settle s = transferred (answered t c.shape n)
        (graft (fetched c.shape t n) (emit (.frame (frameRecord c.shape false false (answered t c.shape n))) c))
      ∧ Live (settle s) := by
  have hn := h.length
  have hlen := length_answered t c.shape n
  cases hs with
  | instr io hk | header io hp hk => omega
  | data io hki hi => omega
  | done io hk =>
    rw [List.drop_eq_nil_of_le (Nat.le_of_eq hlen)] at hl ⊢
    have hl' := hl.wireStep
    rw [settle_done hl, ← hl.wireStep_done]
    refine ⟨?_, hl'⟩
    rw [hl.wireStep_done, h.unmapped, hlen]

/-- RDID's eight reads: the bytes are reported once the frame has left the wire (42_transaction_primitives.md R190, R191). -/
theorem Inbound.readIdentification (h : Inbound c 8) (hdepth : 4 ≤ t.par.fifoDepth) (hl : Live s)
    (hs : Incoming c t (answered t c.shape 8) 0 s) :
    ∃ u, Machine.readIdentification s = report (answered t c.shape 8) u ∧ Live u
      ∧ u = transferred (answered t c.shape 8)
          (graft (fetched c.shape t 8) (emit (.frame (frameRecord c.shape false false (answered t c.shape 8))) c)) := by
  obtain ⟨htaken, hl', hs'⟩ := h.takeBytes_all hdepth hl hs
  obtain ⟨hsettle, hl''⟩ := h.settle hl' hs'
  refine ⟨Machine.settle (Machine.takeBytes 8 s).2, ?_, hl'', hsettle⟩
  rw [Machine.readIdentification, if_neg hl'.not_halted, htaken]
  exact if_neg hl''.not_halted

end Incoming

/-! ### RDID, RD1 and RDA -/

theorem Incoming.start (r : State) (bytes : List Byte) : Incoming (begun r) r bytes 0 (started r) := .instr r.io rfl

theorem frameDone_of_read {f : FrameShape} {l : Lines} {n : Nat} (h : f.data = some ⟨l, .read, n⟩) (bytes : List Byte) (r : State) :
    frameDone f bytes [] r
      = transferred bytes (graft (deviceLatch (answerTo r f) r)
          (emit (.frame (frameRecord f false false bytes)) (emit (.tmwWrite r.ccr) r))) := by
  rw [frameDone_eq_graft, deviceAfter_of_read h]

/-- Settles O32: the drain takes the bytes of the frame as they come and stores them in their order. -/
theorem rdaFillsTheBuffer : Obligations.RdaFillsTheBuffer := by
  intro s o n a len p h hlen hfast
  let r : State := { s with
    dlr := len - 1, ccr := tmwOfRda s.par o n a, ar := a
    abr := if n = .four ∧ s.par.altEn = true then Config.altValue.setWidth 32 else s.abr }
  let bytes : List Byte := answered r r.shape len.toNat
  have hshape : r.shape = rdaFrame s.par o n a len := shape_rda s o n a len hlen
  have hdata : r.shape.data = some ⟨n, .read, len.toNat⟩ := by rw [hshape]; cases n <;> rfl
  have hin : Inbound (begun r) len.toNat := ⟨by cases n <;> simp [r, begun, beginOp, emit, ccrMapped, tmwOfRda], n, hdata⟩
  have hdepth : 4 ≤ r.par.fifoDepth := Nat.le_trans (by decide) h.depth
  have hlive : Live (started r) := h.live_started ..
  have hdrain : Drained (begun r) r bytes p.toNat len.toNat (drain len.toNat p.toNat (started r)) :=
    Drained.drain hin hdepth ⟨hlive, .start r bytes⟩
  have hall : bytes.take len.toNat = bytes := List.take_of_length_le (by rw [length_answered])
  have hin' : Inbound (bufWrite p.toNat (bytes.take len.toNat) (begun r)) len.toNat := ⟨hin.unmapped, hin.data⟩
  obtain ⟨hsettle, hlive'⟩ := hin'.settle hdrain.live hdrain.stands
  have hrun : runMicros [drain len.toNat p.toNat, settle] (started r) = settle (drain len.toNat p.toNat (started r)) := by
    rw [hlive.alone.runMicros_cons rfl hdrain.live.alone, hdrain.live.alone.runMicros_cons rfl hlive'.alone, runMicros_nil]
  have hdone : rdaDone o n a len p s = { frameDone r.shape bytes [] r with
      draws := s.draws + len.toNat, buf := s.buf.writeList p.toNat bytes } := by
    simp only [bytes, hshape]
    rfl
  calc exec (.rda o n a len p) s
      = .next (endOp (runMicros (rdaSteps s.par o n a len p) (beginOp s))) := exec_of_none _ s h.1.1
    _ = .next (ended (rdaDone o n a len p s)) := by
      rw [runMicros_rda h.armed h.cleared o n a len p hlen hfast, hrun, endOp_of_not_halted _ hlive'.alone.running, hsettle, hall]
      rw [hdone, frameDone_of_read hdata]
      rfl

/-- No row of the table reads without an address: RD1's frame is not answered (42_transaction_primitives.md R200). -/
theorem answerTo_rd1 (s : State) (o : Byte) (len : Word) : answerTo s (rd1Frame o len) = .undefined := by
  have hbare : bareFrame (rd1Frame o len) = false := rfl
  have hid : idShape (rd1Frame o len) = .undefined := by simp [idShape, rd1Frame]
  have hread (l : Lines) : readShape l (rd1Frame o len) = .undefined := rfl
  have hwrite (l : Lines) : writeShape l (rd1Frame o len) = .undefined := rfl
  have hburst : ((rd1Frame o len).data == some ⟨.one, .write, 2⟩) = false := by simp [rd1Frame]
  unfold answerTo devAnswer
  cases s.devMode <;> simp only [answerSpi, answerQpi, hbare, hid, hread, hwrite, hburst, Bool.and_false, Bool.false_and,
    Bool.false_eq_true, if_false, ite_self]

/-- What RD1's frame leaves: every byte of the array unspecified and the device in an unknown mode. -/
theorem frameDone_rd1 (o : Byte) (len : Word) (bytes : List Byte) (r : State) :
    frameDone (rd1Frame o len) bytes [] r
      = transferred bytes (graft { spoilPsram r with devMode := .unknown }
          (emit (.frame (frameRecord (rd1Frame o len) false false bytes)) (emit (.tmwWrite r.ccr) r))) := by
  have hdata : (rd1Frame o len).data = some ⟨.one, .read, len.toNat⟩ := rfl
  rw [frameDone_of_read hdata, answerTo_rd1]
  rfl

theorem exec_rd1 {s : State} (h : Ready s) (o : Byte) (len : Word) (hpos : 1 ≤ len.toNat) (hmax : len.toNat ≤ 4) :
    exec (.rd1 o len) s = .next (ended (rd1Done o len s)) := by
  let r : State := { s with dlr := len - 1, ccr := tmwOfRd1 o }
  let bytes : List Byte := answered r r.shape len.toNat
  have hlen : len ≠ 0 := by
    rintro rfl
    exact absurd hpos (by decide)
  have hshape : r.shape = rd1Frame o len := shape_rd1 s o len hlen
  have hdata : r.shape.data = some ⟨.one, .read, len.toNat⟩ := by rw [hshape]; rfl
  have hin : Inbound (begun r) len.toNat := ⟨by simp [r, begun, beginOp, emit, ccrMapped, tmwOfRd1], .one, hdata⟩
  have hdepth : 8 ≤ r.par.fifoDepth := h.depth
  have hlive : Live (started r) := h.live_started ..
  obtain ⟨hlive₁, hwaited, -⟩ := (hin.progress_complete (by omega)).waitFor .transferComplete hlive (.start r bytes)
  obtain ⟨hlive₂, hassembled⟩ := hin.assembleWord (by omega) hlive₁ hwaited
  have hin' : Inbound { begun r with opWord := leWord bytes } len.toNat := ⟨hin.unmapped, hin.data⟩
  obtain ⟨hsettle, hlive₃⟩ := hin'.settle hlive₂ hassembled
  have hfetched : fetched r.shape r len.toNat = { spoilPsram r with devMode := .unknown, draws := s.draws + len.toNat } := by
    rw [fetched, hshape, answerTo_rd1]
    rfl
  have hdone : rd1Done o len s
      = { frameDone (rd1Frame o len) bytes [] { r with opWord := leWord bytes } with draws := s.draws + len.toNat } := by
    simp only [bytes, hshape]
    rfl
  calc exec (.rd1 o len) s
      = .next (endOp (runMicros (rd1Steps o len) (beginOp s))) := exec_of_none _ s h.1.1
    _ = .next { transferred bytes (graft (fetched r.shape r len.toNat)
          (emit (.frame (frameRecord r.shape false false bytes)) { begun r with opWord := leWord bytes })) with opDone := true } := by
      rw [runMicros_rd1 h.armed h.cleared o len ⟨hpos, hmax⟩, hlive.alone.runMicros_cons rfl hlive₁.alone,
        hlive₁.alone.runMicros_cons rfl hlive₂.alone, hlive₂.alone.runMicros_cons rfl hlive₃.alone, runMicros_nil,
        endOp_of_not_halted _ hlive₃.alone.running, hsettle]
      rfl
    _ = .next (ended (rd1Done o len s)) := by
      rw [hdone, frameDone_rd1, hfetched, hshape]
      rfl

/-- Settles O31: the bytes are popped once the frame is complete; no rule answers it, so that they are draws. -/
theorem rd1AssemblesDraws : Obligations.Rd1AssemblesDraws := by
  intro s o len h hpos hmax
  refine ⟨exec_rd1 h o len hpos hmax, ?_⟩
  have hbytes : answered s (rd1Frame o len) len.toNat = (List.range len.toNat).map fun i => Config.drawByte (s.draws + i) := by
    simp [answered, answerTo_rd1, devBytes, devByte]
  simp only [rd1Done, frameDone_rd1]
  rw [hbytes]
  exact ⟨rfl, rfl, rfl⟩

/-- The report, by whether there is one (42_transaction_primitives.md R191). -/
theorem report_eq (id : List Byte) (s : State) :
    report id s = if reported id then emit (.diag id) { s with diagBytes := diagWord id, diagValid := true } else s := by
  unfold report reported
  cases id.all (· == 0x00) <;> cases id.all (· == 0xFF) <;> rfl

theorem Alone.report {s : State} (h : Alone s) (id : List Byte) : Alone (report id s) := by
  rw [report_eq]
  split
  · exact ⟨h.sched, h.running⟩
  · exact h

/-- The operation ends after its report as it would without one, the report apart. -/
theorem endOp_report {s : State} (h : Alone s) (id : List Byte) : endOp (report id s) = withReport id (endOp s) := by
  rw [endOp_of_not_halted _ (h.report id).running, endOp_of_not_halted _ h.running, report_eq, withReport]
  split <;> rfl

theorem exec_rdid {s : State} (h : Ready s) : exec .rdid s = .next (withReport (answered s rdidFrame 8) (ended (rdidDone s))) := by
  let r : State := { s with dlr := 7, ccr := tmwRdidWord, ar := 0 }
  have hshape : r.shape = rdidFrame := shape_rdid s
  have hdata : r.shape.data = some ⟨.one, .read, 8⟩ := by rw [hshape]; rfl
  have hin : Inbound (begun r) 8 := ⟨show ccrMapped tmwRdidWord = false by decide, .one, hdata⟩
  have hlive : Live (started r) := h.live_started ..
  have hdepth : 4 ≤ r.par.fifoDepth := Nat.le_trans (by decide) h.depth
  obtain ⟨u, hread, hlive', hu⟩ := hin.readIdentification (t := r) hdepth hlive (.start r _)
  have hanswer : answered s rdidFrame 8 = answered r r.shape 8 := by
    rw [hshape]
    rfl
  have hdone : rdidDone s = { frameDone r.shape (answered r r.shape 8) [] r with draws := s.draws + 8 } := by
    rw [rdidDone, hanswer, hshape]
  have hended : endOp u = ended (rdidDone s) := by
    rw [endOp_of_not_halted u hlive'.alone.running, hu, hdone, frameDone_of_read hdata]
    rfl
  calc exec .rdid s
      = .next (endOp (runMicros rdidSteps (beginOp s))) := exec_of_none _ s h.1.1
    _ = .next (withReport (answered s rdidFrame 8) (ended (rdidDone s))) := by
      rw [runMicros_rdid h.armed h.cleared, hlive.alone.runMicros_cons hread (hlive'.alone.report _), runMicros_nil, hanswer,
        ← hended]
      exact congrArg Host.Outcome.next (endOp_report hlive'.alone _)

/-- Settles O27: the eight bytes are popped as they come and reported; a device in SPI mode answers with its identification. -/
theorem rdidReadsAndReports : Obligations.RdidReadsAndReports := by
  intro s h
  refine ⟨exec_rdid h, fun hm => ⟨?bytes, ?mode⟩⟩
  case bytes =>
    have hans : answerTo s rdidFrame = .readId := answerTo_spi (.inl ⟨hm, rfl⟩) hm 0x9F rfl (by decide)
    rw [answered, hans]
    exact devBytes_readId s s.draws
  case mode =>
    have hans : answerTo { s with dlr := 7, ccr := tmwRdidWord, ar := 0 } rdidFrame = .readId :=
      answerTo_spi (.inl ⟨hm, rfl⟩) hm 0x9F rfl (by decide)
    have hdata : rdidFrame.data = some ⟨.one, .read, 8⟩ := rfl
    rw [rdidDone, frameDone_of_read hdata, hans]
    exact hm

end Sys2Proof.Machine
end

section
/-! PROOF. O34: on hardware that does not answer a primitive starts its frame and hangs at its first wait (42_transaction_primitives.md
R217, 60_exceptions.md R263). -/

namespace Sys2Proof.Machine

/-! ### The first wait of each loop -/

theorem halted_raiseHang (w : Wait) (s : State) : halted (raiseHang w s) = true := rfl

section Dead

variable {s : State} (h : s.par.responsive = false)
include h

theorem takeBytes_dead (n : Nat) : (takeBytes (n + 1) s).2 = raiseHang .fifoByteReady s := by
  simp only [takeBytes, waitFor_dead _ _ _ h, halted_raiseHang, if_true]

theorem readIdentification_dead : readIdentification s = raiseHang .fifoByteReady s := by
  simp only [readIdentification, takeBytes_dead h, halted_raiseHang, if_true]

theorem pushBytes_dead (n q : Nat) : pushBytes (n + 1) q s = raiseHang .fifoNotFull s := by
  simp only [pushBytes, waitFor_dead _ _ _ h, halted_raiseHang, if_true]

theorem drainWords_dead (n q : Nat) : drainWords (n + 1) q s = raiseHang .fifoWordReady s := by
  simp only [drainWords, waitFor_dead _ _ _ h, halted_raiseHang, if_true]

theorem drainBytes_dead (n q : Nat) : drainBytes (n + 1) q s = raiseHang .fifoByteReady s := by
  simp only [drainBytes, waitFor_dead _ _ _ h, halted_raiseHang, if_true]

/-- The drain's first wait: for a word where it takes words, else for a byte (42_transaction_primitives.md R203). -/
theorem drain_dead (ha : Alone s) {n : Nat} (hn : n ≠ 0) (p : Nat) :
    drain n p s = raiseHang (if p % 4 = 0 ∧ 4 ≤ n then .fifoWordReady else .fifoByteReady) s := by
  obtain ⟨b, hb⟩ := Nat.exists_eq_succ_of_ne_zero hn
  by_cases hp : p % 4 = 0
  · by_cases hw : 4 ≤ n
    · obtain ⟨k, hk⟩ := Nat.exists_eq_succ_of_ne_zero (show n / 4 ≠ 0 by omega)
      simp only [drain, hp, hw, hk, Nat.succ_eq_add_one, drainWords_dead h, halted_raiseHang, if_true, and_self]
    · have hk : n / 4 = 0 := by omega
      have hm : n % 4 = b + 1 := by omega
      simp only [drain, hp, hw, hk, hm, drainWords, ha.running, drainBytes_dead h, if_true, and_false, if_false, Bool.false_eq_true]
  · simp only [drain, hp, hb, Nat.succ_eq_add_one, drainBytes_dead h, false_and, if_false]

end Dead

/-! ### The primitives -/

/-- `u` is what a primitive makes of `s` before its first wait: its frame has started, and nothing has left the wire. -/
structure Underway (s u : State) : Prop where
  alone : Alone u
  responsive : u.par.responsive = s.par.responsive
  busy : u.busy = .one
  selected : u.nCS = false
  incomplete : u.tcf = false
  phase : u.ph = .instr
  trace : u.trace = s.trace ++ [.tmwWrite u.ccr]
  buf : u.buf = s.buf
  mode : u.mode = s.mode

/-- The frame has started, and the registers are all that differs from `s`. -/
theorem underway_started {s : State} (h : Quiet s) (dlr ccr ar abr : Word) :
    Underway s (started { s with dlr := dlr, ccr := ccr, ar := ar, abr := abr }) :=
  ⟨⟨h.2, (alone_beginOp h).running⟩, rfl, rfl, rfl, rfl, rfl, rfl, rfl, rfl⟩

/-- A write of `DR` that the FIFO allows. -/
theorem Underway.writeDr {s u : State} (h : Underway s u) (k : Nat) (v : Word) (hk : k ≤ u.par.fifoDepth - u.fifo.length) :
    Underway s (writeDr k v u) := by
  rcases writeDr_cases k v u with ⟨hfull, -⟩ | ⟨-, heq⟩
  · omega
  · rw [heq]
    exact { h with alone := ⟨h.alone.sched, h.alone.running⟩ }

/-- `t` is what a primitive on hardware that does not answer leaves of `s`: its frame has started, and the wait `w` never ends. -/
structure Hung (w : Wait) (s t : State) : Prop where
  fault : t.fault = some (.hang w)
  busy : t.busy = .one
  selected : t.nCS = false
  incomplete : t.tcf = false
  phase : t.ph = .instr
  opDone : t.opDone = false
  trace : t.trace = s.trace ++ [.tmwWrite t.ccr]
  buf : t.buf = s.buf
  mode : t.mode = s.mode

/-- A wait that hangs ends the operation. -/
theorem Underway.hung {s u : State} (h : Underway s u) {m : Micro} {w : Wait} (hm : m u = raiseHang w u) (ms : List Micro) :
    Hung w s (endOp (runMicros (m :: ms) u)) := by
  rw [h.alone.runMicros_last hm (halted_raiseHang w u), endOp_of_fault _ rfl]
  exact ⟨rfl, h.busy, h.selected, h.incomplete, h.phase, rfl, h.trace, h.buf, h.mode⟩

section Hangs

variable {s : State} (h : Armed s) (hc : Cleared s) (hdead : s.par.responsive = false)
include h hc hdead

theorem hung_rdid : Hung .fifoByteReady s (endOp (runMicros rdidSteps (beginOp s))) := by
  rw [runMicros_rdid h hc]
  exact (underway_started h.quiet ..).hung (readIdentification_dead hdead) []

theorem hung_cmd (o : Byte) (n : Lines) : Hung .transferComplete s (endOp (runMicros (cmdSteps o n) (beginOp s))) := by
  rw [runMicros_cmd h hc]
  exact (underway_started h.quiet ..).hung (waitFor_dead _ _ _ hdead) [settle]

theorem hung_wr1 (hdepth : 8 ≤ s.par.fifoDepth) (o : Byte) (p : Word) :
    Hung .transferComplete s (endOp (runMicros (wr1Steps o 2 p) (beginOp s))) := by
  have hstart : Underway s (started { s with dlr := 1, ccr := tmwOfWr1 o }) := underway_started h.quiet ..
  have hpushed : Underway s (pushPair p (started { s with dlr := 1, ccr := tmwOfWr1 o })) :=
    hstart.writeDr 2 _ (Nat.le_trans (by decide) hdepth)
  rw [runMicros_wr1 h hc, hstart.alone.runMicros_cons rfl hpushed.alone]
  exact hpushed.hung (waitFor_dead _ _ _ (hpushed.responsive.trans hdead)) [settle]

theorem hung_wra (o : Byte) (n : Lines) (a len p : Word) :
    Hung (if len = 0 then .transferComplete else .fifoNotFull) s (endOp (runMicros (wraSteps s.par o n a len p) (beginOp s))) := by
  have hstart : Underway s (started { s with dlr := if len = 0 then s.dlr else len - 1, ccr := tmwOfWra s.par o n a len, ar := a }) :=
    underway_started h.quiet ..
  rw [runMicros_wra h hc]
  by_cases hlen : len = 0
  · have hnone : len.toNat = 0 := congrArg BitVec.toNat hlen
    rw [if_pos hlen, hnone, hstart.alone.runMicros_cons (m := pushBytes 0 p.toNat) rfl hstart.alone]
    exact hstart.hung (waitFor_dead _ _ _ hdead) [settle]
  · obtain ⟨k, hk⟩ := Nat.exists_eq_succ_of_ne_zero fun hzero => hlen (BitVec.eq_of_toNat_eq hzero)
    rw [if_neg hlen, hk]
    exact hstart.hung (pushBytes_dead (hstart.responsive.trans hdead) k p.toNat) [_, settle]

theorem hung_rd1 (o : Byte) (len : Word) (hlen : 1 ≤ len.toNat ∧ len.toNat ≤ 4) :
    Hung .transferComplete s (endOp (runMicros (rd1Steps o len) (beginOp s))) := by
  rw [runMicros_rd1 h hc o len hlen]
  exact (underway_started h.quiet ..).hung (waitFor_dead _ _ _ hdead) [assembleWord len.toNat, settle]

theorem hung_rda (o : Byte) (n : Lines) (a len p : Word) (hlen : len ≠ 0) (hfast : ¬(n = .one ∧ o = 0x0B)) :
    Hung (if p.toNat % 4 = 0 ∧ 4 ≤ len.toNat then .fifoWordReady else .fifoByteReady) s
      (endOp (runMicros (rdaSteps s.par o n a len p) (beginOp s))) := by
  have hpos : len.toNat ≠ 0 := fun hzero => hlen (BitVec.eq_of_toNat_eq hzero)
  have hstart : Underway s (started { s with
      dlr := len - 1, ccr := tmwOfRda s.par o n a, ar := a
      abr := if n = .four ∧ s.par.altEn = true then Config.altValue.setWidth 32 else s.abr }) := underway_started h.quiet ..
  rw [runMicros_rda h hc o n a len p hlen hfast]
  exact hstart.hung (drain_dead (hstart.responsive.trans hdead) hstart.alone hpos p.toNat) [settle]

end Hangs

/-- Settles O34: the registers are loaded and the frame starts as on hardware that answers; the first wait is the one that hangs. -/
theorem unresponsiveHardwareHangs : Obligations.UnresponsiveHardwareHangs := by
  rintro s i w hq ⟨-, hfifo, -⟩ ⟨-, -, -, -, -, hdepth⟩ hdead hm he hclosed hb hwait
  have h : Armed s := ⟨hq, hb, hfifo⟩
  have hc : Cleared s := ⟨hm, he, hclosed, hb⟩
  suffices hhung : ∃ t, exec i s = .next t ∧ Hung w s t by
    obtain ⟨t, hexec, hf, hbusy, hcs, htcf, hph, hdone, htrace, hbuf, hmode⟩ := hhung
    exact ⟨t, hexec, hf, hbusy, hcs, htcf, hph, hdone, htrace, hbuf, hmode⟩
  cases i with
  | rdid =>
    cases hwait
    exact ⟨_, exec_of_none _ s hq.1, hung_rdid h hc hdead⟩
  | cmd o n =>
    cases hwait
    exact ⟨_, exec_of_none _ s hq.1, hung_cmd h hc hdead o n⟩
  | wr1 o len p =>
    obtain ⟨rfl, hwait⟩ := Option.ite_none_right_eq_some.1 hwait
    cases hwait
    exact ⟨_, exec_of_none _ s hq.1, hung_wr1 h hc hdead hdepth o p⟩
  | wra o n a len p =>
    cases hwait
    exact ⟨_, exec_of_none _ s hq.1, hung_wra h hc hdead o n a len p⟩
  | rd1 o len =>
    obtain ⟨hlen, hwait⟩ := Option.ite_none_right_eq_some.1 hwait
    cases hwait
    exact ⟨_, exec_of_none _ s hq.1, hung_rd1 h hc hdead o len hlen⟩
  | rda o n a len p =>
    obtain ⟨hops, hwait⟩ := Option.ite_none_left_eq_some.1 hwait
    cases hwait
    obtain ⟨hlen, hfast⟩ := not_or.1 hops
    exact ⟨_, exec_of_none _ s hq.1, hung_rda h hc hdead o n a len p hlen hfast⟩
  | _ => cases hwait

end Sys2Proof.Machine
end

section
/-! PROOF. O41 to O44: bus mode arbitration when no other agent steps (43_bus_mode_arbitration.md R222 to R228). Each operation's micro-steps
are run one after the other to the state that its rule names. -/

namespace Sys2Proof.Machine

/-- An operation whose micro-steps run to `r`, no other agent stepping, ends there. -/
theorem exec_of_run {i : Instr} {ms : List Micro} {s r : State} (hq : Quiet s) (hi : workOf s.par i = .operation ms)
    (hrun : runMicros ms (beginOp s) = r) (hr : Alone r) : exec i s = .next { r with opDone := true } := by
  rw [exec_of_none i s hq.1, hi, Work.after, hrun, endOp_of_not_halted r hr.running]

/-- The mode is the last thing that an operation of the arbitration sets. -/
theorem Alone.runMicros_setMode {s : State} (h : Alone s) (m : Mode) : runMicros [setMode m] s = modeSet m s :=
  h.runMicros_cons rfl ⟨h.sched, h.running⟩ []

/-! ### INITIALIZE -/

/-- Settles O41: CONFIGURE, the bracket that denies all, and the mode. -/
theorem initialiseConfiguresAndCloses : Obligations.InitialiseConfiguresAndCloses := by
  intro s hq hp
  have hbegin : Alone (beginOp s) := alone_beginOp hq
  have hconf : runMicros (configureSteps s.par) (beginOp s) = configured (beginOp s) :=
    runMicros_configureSteps (beginOp s) hbegin.sched hbegin.running hp
  have hconfAlone : Alone (configured (beginOp s)) := ⟨hbegin.sched, hbegin.running⟩
  have hclosedAlone : Alone (closed (configured (beginOp s))) := ⟨hbegin.sched, hbegin.running⟩
  have hend : Alone (modeSet .indirectAccess (closed (configured (beginOp s)))) := ⟨hbegin.sched, hbegin.running⟩
  have hrun : runMicros (initialiseSteps s.par) (beginOp s) = modeSet .indirectAccess (closed (configured (beginOp s))) := by
    rw [initialiseSteps, runMicros_append _ _ _ hbegin.running, hconf, if_neg (by simp [hconfAlone.running]),
      hconfAlone.runMicros_cons (denyStep_eq_closed _) hclosedAlone, hclosedAlone.runMicros_setMode]
  exact exec_of_run hq rfl hrun hend

/-! ### Aborts -/

theorem crAbort_set (cr : Word) : crAbort (crSetAbort cr) = true := by
  simp [crAbort, crSetAbort]

/-- An abort that was not pending leaves `CR` as it was. -/
theorem crClearAbort_crSetAbort {cr : Word} (h : crAbort cr = false) : crClearAbort (crSetAbort cr) = cr := by
  apply BitVec.eq_of_getLsbD_eq
  intro i hi
  rcases eq_or_ne i 1 with rfl | hne
  · simpa [crAbort, crClearAbort, crSetAbort] using h.symm
  · simp only [crClearAbort, crSetAbort, BitVec.getLsbD_and, BitVec.getLsbD_or]
    interval_cases i <;> simp_all

/-- An abort leaves the wire idle, the FIFO empty and `SR.BUSY` 0 (10_state.md R45). -/
theorem completeAbort_eq (s : State) :
    completeAbort s = { s with
      ph := .idle, nCS := true, clk := false, io := .undriven, fifo := [], tcf := false, busy := .zero, cr := crClearAbort s.cr
      trace := s.trace ++ if s.ph = .idle then [] else [.frame (currentFrame s true)] } := by
  rw [completeAbort, emitCutOff_eq]

theorem completeAbort_requestAbort (s : State) : completeAbort (requestAbort s) = aborted s := by
  have hframe : currentFrame (requestAbort s) true = currentFrame s true := rfl
  have hph : (requestAbort s).ph = s.ph := rfl
  rw [completeAbort_eq, hframe, hph]
  simp [requestAbort, aborted, emit]

theorem Alone.requestAbort {s : State} (h : Alone s) : Alone (requestAbort s) := ⟨h.sched, h.running⟩

theorem Alone.aborted {s : State} (h : Alone s) : Alone (aborted s) := ⟨h.sched, h.running⟩

/-- One step of the wire engine completes the abort, on any hardware (10_state.md R45). -/
theorem waitAbort_requestAbort {s : State} (h : Alone s) : waitAbort (requestAbort s) = aborted s := by
  have hpending : abortDone (requestAbort s) = false := by simp [abortDone, requestAbort, crAbort_set]
  have hdone : abortDone (aborted s) = true := by simp [abortDone, aborted, crAbort_clear]
  rw [waitAbort, waitLoop_step _ _ _ _ h.requestAbort.sched h.requestAbort.running hpending,
    wireStep_abort _ (crAbort_set s.cr), completeAbort_requestAbort,
    waitLoop_of_cond _ _ _ _ h.aborted.sched h.aborted.running hdone]

/-- Without an abort there is nothing to wait for. -/
theorem waitAbort_of_none {s : State} (h : Alone s) (ha : crAbort s.cr = false) : waitAbort s = s :=
  waitLoop_of_cond _ _ _ _ h.sched h.running (by simp [abortDone, ha])

/-- Settles O44: the abort is requested, and one step of the wire engine completes it. -/
theorem abortEndsTheFrame : Obligations.AbortEndsTheFrame := by
  intro s hq he
  have hbegin : Alone (beginOp s) := alone_beginOp hq
  have hpre : abortPre (beginOp s) = beginOp s := if_pos he
  have hrun : runMicros abortSteps (beginOp s) = aborted (beginOp s) := by
    rw [abortSteps, hbegin.runMicros_cons hpre hbegin, hbegin.runMicros_cons rfl hbegin.requestAbort,
      hbegin.requestAbort.runMicros_cons (waitAbort_requestAbort hbegin) hbegin.aborted, runMicros_nil]
  exact exec_of_run hq rfl hrun hbegin.aborted

/-! ### ACQUIRE -/

/-- What ACQUIRE does once the window is closed: the abort where `SR.BUSY` read 1; else the bit is 0 from here. -/
def recovered (b : Bool) (c : State) : State := if b then aborted c else { c with busy := .zero }

theorem acquired_eq (s : State) : acquired s = modeSet .indirectAccess (recovered (busyReads s) (closed (busyRead s))) := rfl

theorem Alone.recovered {c : State} (h : Alone c) (b : Bool) : Alone (recovered b c) := by
  cases b
  · exact ⟨h.sched, h.running⟩
  · exact h.aborted

/-- The read of `SR.BUSY`, the abort and its wait, behind the bracket. -/
theorem runMicros_recover {s : State} (h : Alone s) (ha : crAbort s.cr = false) (ms : List Micro) :
    runMicros (abortIfBusy :: waitAbort :: ms) (closed s) = runMicros ms (recovered (busyReads s) (closed (busyRead s))) := by
  have hclosed : Alone (closed s) := ⟨h.sched, h.running⟩
  have hread : Alone (closed (busyRead s)) := ⟨h.sched, h.running⟩
  have hbusy : readBusy (closed s) = (busyReads s, closed (busyRead s)) := readBusy_eq (closed s)
  cases hb : busyReads s with
  | true =>
    have habort : abortIfBusy (closed s) = requestAbort (closed (busyRead s)) := by
      simp [abortIfBusy, hbusy, hb, interleave_quiet _ hread.sched, hread.running]
    rw [hclosed.runMicros_cons habort hread.requestAbort,
      hread.requestAbort.runMicros_cons (waitAbort_requestAbort hread) hread.aborted]
    rfl
  | false =>
    have hfree : abortIfBusy (closed s) = recovered false (closed (busyRead s)) := by
      simp [abortIfBusy, hbusy, hb, recovered]
    have hidle := hread.recovered false
    rw [hclosed.runMicros_cons hfree hidle, hidle.runMicros_cons (waitAbort_of_none hidle ha) hidle]

theorem exec_acquire {s : State} (hq : Quiet s) (hm : s.mode ≠ .uninitialized) (ha : crAbort s.cr = false) :
    exec .acquire s = .next (ended (acquired s)) := by
  have hbegin : Alone (beginOp s) := alone_beginOp hq
  have hclosed : Alone (closed (beginOp s)) := ⟨hbegin.sched, hbegin.running⟩
  have hread : Alone (closed (busyRead (beginOp s))) := ⟨hbegin.sched, hbegin.running⟩
  have hrecovered := hread.recovered (busyReads (beginOp s))
  have hpre : acquirePre (beginOp s) = beginOp s := if_neg (by simpa using hm)
  have hend : Alone (acquired (beginOp s)) := ⟨hrecovered.sched, hrecovered.running⟩
  have hrun : runMicros acquireSteps (beginOp s) = acquired (beginOp s) := by
    rw [acquireSteps, hbegin.runMicros_cons hpre hbegin, hbegin.runMicros_cons (denyStep_eq_closed _) hclosed,
      runMicros_recover hbegin ha, hrecovered.runMicros_setMode, acquired_eq]
  rw [exec_of_run hq rfl hrun hend, acquired_eq, acquired_eq]
  have hbusy : busyReads (beginOp s) = busyReads s := rfl
  rw [hbusy]
  cases busyReads s <;> rfl

/-- Where `SR.BUSY` reads 0 and wire, flags and pins agree, the wire is idle and the FIFO empty (R225 (d)). -/
theorem idle_of_busyReads_eq_false {s : State} (hw : WireInv s) (hb : busyReads s = false) :
    s.ph = .idle ∧ s.nCS = true ∧ s.fifo = [] := by
  obtain ⟨honWire, hfifo, hncs, -⟩ := hw
  have hheld : busyHeld s = false := Bool.eq_false_of_not_eq_true fun h => by simp [busyReads_of_busyHeld s h] at hb
  have hone : s.busy ≠ .one := fun h => by simp [busyHeld, h] at hheld
  have hidle : s.ph = .idle := by
    by_contra hn
    rcases honWire hn with h | ⟨h, -⟩
    · exact hone h
    · simp [busyHeld, h, hn] at hheld
  exact ⟨hidle, by simp [hncs, hidle], hfifo hone⟩

/-- Settles O42: the bracket, the read of `SR.BUSY`, the abort where it reads 1, and the mode. -/
theorem acquireRecoversTheBus : Obligations.AcquireRecoversTheBus := by
  intro s hq hm ha
  refine ⟨exec_acquire hq hm ha, ?_⟩
  rw [acquired_eq]
  cases hb : busyReads s with
  | true =>
    exact ⟨windowClosed_closed s, rfl, rfl, crClearAbort_crSetAbort ha, rfl, fun _ => ⟨rfl, rfl, rfl⟩, rfl⟩
  | false =>
    exact ⟨windowClosed_closed s, rfl, rfl, rfl, rfl, fun h => idle_of_busyReads_eq_false (s := s) (h.resolve_left nofun) hb, rfl⟩

/-! ### RELEASE -/

/-- MMAP_CFG's micro-steps behind checks that pass. -/
theorem runMicros_mmapSteps {s : State} (h : Alone s) (hc : Cleared s) (ms : List Micro) :
    runMicros (mmapSteps s.par ++ ms) s = runMicros ms (mapped s) := by
  have halt : Alone (writeAlt s.par.altEn s) := h.writeAlt _
  have hfree : (writeAlt s.par.altEn s).busy = .zero := by rw [writeAlt_eq]; exact hc.free
  have hword : writeTmw (tmwOfMmap s.par) (writeAlt s.par.altEn s) = mapped s := by
    rw [writeTmw_of_free _ halt.fault hfree, modeWordWritten_of_not_indirect (ccrIndirect_mmap s.par) hfree, writeAlt_eq]
    rfl
  rw [mmapSteps, List.cons_append, List.cons_append, List.singleton_append, h.runMicros_cons hc.mmapPre h,
    h.runMicros_cons rfl halt, halt.runMicros_cons hword ⟨h.sched, h.running⟩]

/-- Settles O43: MMAP_CFG, the bracket that opens the window, and the mode. -/
theorem releaseMapsAndOpens : Obligations.ReleaseMapsAndOpens := by
  intro s hq hm he hb hw
  refine ⟨?_, fun ⟨hp, _⟩ => windowOpen_opened (s := mapped s) hp⟩
  have hc : Cleared s := ⟨hm, he, hw, hb⟩
  have hbegin : Alone (beginOp s) := alone_beginOp hq
  have hpre : releasePre (beginOp s) = beginOp s := if_pos (by simpa using hm)
  have hmapped : Alone (mapped (beginOp s)) := ⟨hbegin.sched, hbegin.running⟩
  have hopened : Alone (opened (mapped (beginOp s))) := ⟨hbegin.sched, hbegin.running⟩
  have hend : Alone (released (beginOp s)) := ⟨hbegin.sched, hbegin.running⟩
  have hrun : runMicros (releaseSteps s.par) (beginOp s) = released (beginOp s) := by
    rw [releaseSteps, List.cons_append, hbegin.runMicros_cons hpre hbegin,
      show mmapSteps s.par = mmapSteps (beginOp s).par from rfl, runMicros_mmapSteps hbegin hc.beginOp,
      hmapped.runMicros_cons (allowStep_eq_opened _) hopened, hopened.runMicros_setMode]
    rfl
  exact exec_of_run hq rfl hrun hend

end Sys2Proof.Machine
end

section
/-! PROOF. O55, what an operation knows under any schedule at all. `Going P` says `P` unless the operation has been halted; a `P` that the wire
engine, the accesses that end in no outcome, and the schedule keep (`Stable`) stands at every place where other agents may step. While the
window is closed such an access is only recorded. -/

namespace Sys2Proof.Machine

/-- `P`, unless the operation has been halted. -/
def Going (P : State → Prop) (s : State) : Prop := halted s = false → P s

/-- Unless it halts the operation, the micro-step leads from `P` to `Q`. -/
abbrev Passes (P Q : State → Prop) (m : Micro) : Prop := Leads (Going P) (Going Q) m

/-- The wire engine, an access that ends in no outcome, and the schedule keep `P`. -/
structure Stable (P : State → Prop) : Prop where
  wire : ∀ s, P s → P (wireStep s)
  access : ∀ kind a k s, P s → halted (mappedAccess kind a k s) = false → P (mappedAccess kind a k s)
  sched : ∀ rest s, P s → P { s with sched := rest }

variable {P Q R : State → Prop}

theorem going_of_halted {s : State} (h : halted s = true) : Going P s := fun hn => absurd h (by simp [hn])

theorem Stable.closed (h : Stable P) : Closed (Going P) where
  wire s hh hs := fun _ => h.wire s (hs hh)
  access kind a k s hh hs := h.access kind a k s (hs hh)
  reentrant _ _ _ := going_of_halted rfl
  unwind _ _ _ := going_of_halted (by simp [halted])
  sched rest s hh hs := fun _ => h.sched rest s (hs hh)
  hang _ _ _ _ := going_of_halted rfl

/-- What the wire engine and the accesses leave as it was may be known besides. -/
theorem Stable.and_kept (h : Stable P) (hk : ∀ s t, Kept s t → Q s → Q t) (hs : ∀ rest s, Q s → Q { s with sched := rest }) :
    Stable fun s => P s ∧ Q s where
  wire s := fun ⟨hp, hq⟩ => ⟨h.wire s hp, hk _ _ (kept_wireStep s) hq⟩
  access kind a k s := fun ⟨hp, hq⟩ hn => ⟨h.access kind a k s hp hn, hk _ _ (kept_mappedAccess hn) hq⟩
  sched rest s := fun ⟨hp, hq⟩ => ⟨h.sched rest s hp, hs rest s hq⟩

/-! ### Lists of micro-steps -/

/-- A check passes and changes nothing, or halts the operation. -/
theorem passes_of_cases {m : Micro} (h : ∀ s, m s = s ∨ halted (m s) = true) : Passes P P m := by
  intro s hh hs
  rcases h s with he | he
  · rw [he]
    exact hs
  · exact going_of_halted he

theorem passes_check (c : State → Bool) (f : Fault) : Passes P P fun s => if c s then s else raise f s := by
  refine passes_of_cases fun s => ?_
  split
  · exact .inl rfl
  · exact .inr rfl

theorem passes_nil (h : ∀ s, P s → Q s) : Passes P Q (runMicros []) := fun s hh hs _ => h s (hs hh)

theorem passes_cons {m : Micro} {ms : List Micro} (hP : Stable P) (hm : Passes P Q m) (hms : Passes Q R (runMicros ms)) :
    Passes P R (runMicros (m :: ms)) :=
  runMicros_cons_leads hP.closed (fun _ hh _ => going_of_halted hh) (fun _ hh _ => going_of_halted hh) hm hms

theorem passes_append {xs ys : List Micro} (hx : Passes P Q (runMicros xs)) (hy : Passes Q R (runMicros ys)) :
    Passes P R (runMicros (xs ++ ys)) := by
  intro s hh hs
  rw [runMicros_append xs ys s hh]
  have h := hx s hh hs
  split
  next hn => exact going_of_halted hn
  next hn => exact hy _ (Bool.eq_false_of_not_eq_true hn) h

/-- A wait ends with its condition. -/
theorem Stable.passes_waitFor (h : Stable P) (cond : State → Bool) (w : Wait) :
    Passes P (fun s => P s ∧ cond s = true) (waitFor cond w) :=
  fun s hh hs hn => ⟨h.closed.waitFor cond w s hh hs hn, waitFor_cond cond w s hn⟩

/-- An operation that raises its `op_done` has not been halted. -/
theorem not_halted_of_endOp {r : State} (h : (endOp r).opDone = true) : halted r = false := by
  unfold endOp at h
  split at h
  · cases h
  split at h
  · cases h
  · simp_all [halted]

/-- What the micro-steps of an operation lead to holds where it has ended normally. -/
theorem exists_of_exec {i : Instr} {ms : List Micro} {s t : State} (hi : workOf s.par i = .operation ms) (hm : Passes P Q (runMicros ms))
    (hs : P (beginOp s)) (he : exec i s = .next t) (hd : t.opDone = true) :
    ∃ r, Q r ∧ r.fault = none ∧ t = { r with opDone := true } := by
  obtain ⟨hf, ht⟩ := (exec_next_iff i s t).1 he
  rw [hi, Work.after] at ht
  rw [ht] at hd
  have hn := not_halted_of_endOp hd
  have hbegin : halted (beginOp s) = false := (halted_eq_false _).2 ⟨hf, rfl⟩
  exact ⟨_, hm _ hbegin (fun _ => hs) hn, fault_of_not_halted hn, ht.trans (endOp_of_not_halted _ hn)⟩

/-! ### The closed window -/

/-- Behind a closed window an access that ends in no outcome is only recorded (44_access_library.md R250). -/
theorem mappedAccess_denied {s : State} (hc : windowClosed s = true) {kind : CpuKind} {a : Word} {k : CpuSize}
    (h : halted (mappedAccess kind a k s) = false) : ∃ e, mappedAccess kind a k s = emit e s := by
  have hsize : 1 ≤ sizeBytes k := by cases k <;> decide
  simp only [mappedAccess] at h ⊢
  by_cases hin : (decide (spanBase s.par ≤ a.toNat) && decide (a.toNat + sizeBytes k ≤ spanBase s.par + Config.spanBytes)) = true
  · have hspan : inSpan s.par a.toNat = true := by
      simp only [Bool.and_eq_true, decide_eq_true_eq] at hin
      exact (inSpan_iff _ _).2 (by omega)
    have hdenied : allowed s a.toNat = false := (windowClosedIffAllDenied s).1 hc a.toNat hspan
    simp only [hin, hdenied, Bool.false_and, Bool.not_true, Bool.not_false, Bool.false_eq_true, if_false, if_true] at h ⊢
    split
    · exact ⟨_, rfl⟩
    next hk =>
      rw [if_neg hk] at h
      exact absurd (fault_of_not_halted h) nofun
  · exact ⟨_, if_pos (by simp [hin])⟩

theorem Kept.windowClosed {s t : State} (h : Kept s t) : windowClosed t = windowClosed s := (congrArg Machine.windowClosed h.still :)

theorem Kept.windowOpen {s t : State} (h : Kept s t) : windowOpen t = windowOpen s := (congrArg Machine.windowOpen h.still :)

/-- The straps, a closed window, and no abort requested. -/
structure Shut (p : Params) (s : State) : Prop where
  par : s.par = p
  closed : windowClosed s = true
  abort : crAbort s.cr = false

theorem Shut.emit {p : Params} {s : State} (h : Shut p s) (e : Event) : Shut p (emit e s) := ⟨h.par, h.closed, h.abort⟩

/-- `K` reads neither the trace nor the schedule. -/
def Untraced (K : State → Prop) : Prop := ∀ es sc s, K s → K { s with trace := es, sched := sc }

/-- The window is closed, the wire idle, the FIFO empty, `SR.BUSY` 0, the device in mode `m`, and `K` holds. -/
structure Vacant (p : Params) (m : DevMode) (K : State → Prop) (s : State) : Prop where
  shut : Shut p s
  dev : s.devMode = m
  free : s.busy = .zero
  idle : s.ph = .idle
  empty : s.fifo = []
  known : K s

theorem stable_vacant {p : Params} {m : DevMode} {K : State → Prop} (hK : Untraced K) : Stable (Vacant p m K) where
  wire s h := (wireStep_still s h.shut.abort (.inr h.idle)).symm ▸ h
  access kind a k s h hn := by
    obtain ⟨e, he⟩ := mappedAccess_denied h.shut.closed hn
    exact he ▸ { h with shut := h.shut.emit e, known := hK _ _ s h.known }
  sched rest s h := { h with shut := { h.shut with }, known := hK _ _ s h.known }

end Sys2Proof.Machine
end

section
/-! PROOF. O55, the primitives under any schedule. A frame that the device answers leaves it in its mode (`Served`); from the write of its mode
word to the read of `SR.BUSY` that finds it over, `Framed` says where it stands. -/

namespace Sys2Proof.Machine

variable {p : Params} {m : DevMode} {s : State}

/-! ### A frame that the device answers -/

/-- A mode word of an indirect frame, and an answer of the device at whose end it does nothing. -/
structure Serves (ccr : Word) (ans : DevAnswer) : Prop where
  unmapped : ccrMapped ccr = false
  answered : ans ≠ .undefined
  passive : Passive ans

/-- The registers describe such a frame. -/
abbrev Served (s : State) : Prop := Serves s.ccr (answerTo s s.shape)

theorem Serves.deviceLatch (h : Served s) (t : State) : deviceLatch (answerTo s s.shape) t = t := by
  rcases deviceLatch_cases (answerTo s s.shape) t with ⟨he, -⟩ | ⟨-, he⟩
  · exact absurd he h.answered
  · exact he

/-- In a phase that is entered the device does nothing. -/
theorem enterPhase_of_passive (h : Passive (answerTo s s.shape)) (ph : Phase) :
    ∃ tcf, enterPhase ph s = { s with ph := ph, tcf := tcf } := by
  rcases enterPhase_cases ph s with ⟨hp, he⟩ | ⟨-, he⟩
  · exact ⟨true, by rw [he, h, hp]⟩
  · exact ⟨s.tcf, he⟩

/-- A later point of the frame of `s`, which is still on the wire. -/
def LaterPoint (s t : State) : Prop :=
  ∃ (ph : Phase) (tcf : Bool) (fifo moved : List Byte) (io : LineClock) (ps : Memory) (ep d : Nat),
    t = { s with ph := ph, tcf := tcf, fifo := fifo, wireBytes := moved, io := io, psram := ps, psramEpoch := ep, draws := d }

theorem LaterPoint.enterPhase {t : State} (h : Served s) (ht : LaterPoint s t) (ph : Phase) : LaterPoint s (enterPhase ph t) := by
  have hpassive : Passive (answerTo t t.shape) := by
    obtain ⟨_, _, _, _, _, _, _, _, rfl⟩ := ht
    exact h.passive
  obtain ⟨tcf, he⟩ := enterPhase_of_passive hpassive ph
  obtain ⟨_, _, _, _, _, _, _, _, rfl⟩ := ht
  exact ⟨_, _, _, _, _, _, _, _, he⟩

theorem laterPoint_byteSent (d : DataShape) (b : Byte) (rest : List Byte) (s : State) : LaterPoint s (byteSent d b rest s) := by
  unfold byteSent
  rcases devWriteByte_cases (answerTo s s.shape) s.wireBytes.length b
    { s with fifo := rest, wireBytes := s.wireBytes ++ [b], io := (byteClocks d.lines .write b).getLastD s.io }
    with ⟨a, -, -, he⟩ | ⟨a, -, -, he⟩ | he <;> rw [he] <;> exact ⟨_, _, _, _, _, _, _, _, rfl⟩

theorem laterPoint_byteReceived (d : DataShape) (b : Byte) (s : State) : LaterPoint s (byteReceived d b s) :=
  ⟨_, _, _, _, _, _, _, _, rfl⟩

theorem Serves.wireData (h : Served s) (d : DataShape) : LaterPoint s (wireData d s) := by
  rcases wireData_cases d s with he | ⟨b, rest, -, -, he⟩ | ⟨b, -, -, he⟩ <;> rw [he]
  · exact ⟨_, _, _, _, _, _, _, _, rfl⟩
  · split
    · exact laterPoint_byteSent d b rest s
    · exact (laterPoint_byteSent d b rest s).enterPhase h _
  · split
    · exact laterPoint_byteReceived d b s
    · exact (laterPoint_byteReceived d b s).enterPhase h _

/-- A step of the wire engine on such a frame ends it, or leads on in it. -/
theorem Serves.wireStep (h : Served s) (ha : crAbort s.cr = false) : wireStep s = endFrame s ∨ LaterPoint s (wireStep s) := by
  have hself : LaterPoint s s := ⟨_, _, _, _, _, _, _, _, rfl⟩
  have hio : LaterPoint s { s with io := phaseIo s } := ⟨_, _, _, _, _, _, _, _, rfl⟩
  unfold Machine.wireStep
  rw [if_neg (by simp [ha])]
  split
  · exact .inr hself
  split
  next => exact .inr hself
  next =>
    rw [h.deviceLatch]
    exact .inr (hio.enterPhase h _)
  next => exact .inr (hio.enterPhase h _)
  next => exact .inr (hio.enterPhase h _)
  next => exact .inr (hio.enterPhase h _)
  next =>
    split
    · rw [if_neg (by simp [h.unmapped])]
      exact .inr (h.wireData _)
    · exact .inr (hself.enterPhase h _)
  next => exact .inl rfl

/-- A frame of such an answer is on the wire, or `SR.BUSY` still waits for the FIFO to be read; or it is over. -/
structure Framed (p : Params) (m : DevMode) (s : State) : Prop where
  shut : Shut p s
  dev : s.devMode = m
  stands : s.busy = .one ∧ Served s ∨ s.busy = .zero ∧ s.ph = .idle ∧ s.fifo = []

/-- When `SR.BUSY` reads 0 the frame is over. -/
theorem Framed.vacant {K : State → Prop} (h : Framed p m s) (hb : s.busy = .zero) (hK : K s) : Vacant p m K s := by
  rcases h.stands with ⟨hone, -⟩ | ⟨-, hidle, hempty⟩
  · rw [hone] at hb
    cases hb
  · exact ⟨h.shut, h.dev, hb, hidle, hempty, hK⟩

/-- `SR.BUSY` falls once the wire is idle and the FIFO empty. -/
theorem Framed.refreshBusy (h : Framed p m s) : Framed p m (refreshBusy s) := by
  rw [refreshBusy_eq]
  split
  next hc =>
    obtain ⟨-, hidle, hempty⟩ := hc
    exact { h with shut := { h.shut with }, stands := .inr ⟨rfl, hidle, hempty⟩ }
  next => exact h

theorem Framed.endFrame (h : Framed p m s) : Framed p m (endFrame s) := by
  have hidle : Framed p m { emit (.frame (currentFrame s false)) s with ph := .idle, nCS := true, clk := false, io := .undriven } :=
    { shut := { h.shut with }
      dev := h.dev
      stands := h.stands.imp_right fun ⟨hzero, _, hempty⟩ => ⟨hzero, rfl, hempty⟩ }
  exact hidle.refreshBusy

theorem Framed.wireStep (h : Framed p m s) : Framed p m (wireStep s) := by
  rcases h.stands with ⟨hone, hs⟩ | ⟨-, hidle, -⟩
  · rcases hs.wireStep h.shut.abort with he | ⟨_, _, _, _, _, _, _, _, he⟩ <;> rw [he]
    · exact h.endFrame
    · exact { h with shut := { h.shut with }, stands := .inl ⟨hone, hs⟩ }
  · rwa [wireStep_still s h.shut.abort (.inr hidle)]

theorem stable_framed : Stable (Framed p m) where
  wire _ h := h.wireStep
  access kind a k s h hn := by
    obtain ⟨e, he⟩ := mappedAccess_denied h.shut.closed hn
    exact he ▸ { h with shut := h.shut.emit e }
  sched _ _ h := { h with shut := { h.shut with } }

/-! ### The reads of `DR` -/

theorem reads_framed : ReadsKeep (Going (Framed p m)) := by
  intro k s hh hk hs hn
  have h := hs hh
  rcases readDr_cases k s with ⟨hlt, -⟩ | ⟨-, he⟩
  · omega
  rw [he]
  have hdrop : Framed p m { s with fifo := s.fifo.drop k } :=
    { h with
      shut := { h.shut with }
      stands := h.stands.imp_right fun ⟨hzero, hidle, hempty⟩ => ⟨hzero, hidle, by simp [hempty]⟩ }
  exact hdrop.refreshBusy

theorem passes_bufWrite (q : Nat) (bs : List Byte) : Passes (Framed p m) (Framed p m) (bufWrite q bs) := fun _ hh hs _ =>
  have h := hs hh
  { h with shut := { h.shut with } }

theorem passes_report (id : List Byte) : Passes (Framed p m) (Framed p m) (report id) := by
  intro s hh hs _
  have h := hs hh
  rw [report_eq]
  split
  · exact { h with shut := { h.shut with } }
  · exact h

theorem passes_readIdentification : Passes (Framed p m) (Framed p m) readIdentification :=
  stable_framed.closed.readIdentification reads_framed passes_report

theorem passes_drain (n q : Nat) : Passes (Framed p m) (Framed p m) (drain n q) :=
  stable_framed.closed.drain reads_framed passes_bufWrite n q

theorem passes_settle : Passes (Framed p m) (Framed p m) settle := stable_framed.closed.waitFor wireIdle .transferComplete

end Sys2Proof.Machine
end

section
/-! PROOF. O55, the primitives of the library under any schedule: RDID, RDA and WRA, whose frames the device answers in the mode in which the
library calls them (42_transaction_primitives.md R212), and the CMD that takes the device from SPI into QPI mode. -/

namespace Sys2Proof.Machine

variable {p : Params} {m : DevMode} {s : State} {K : State → Prop}

/-! ### The answers -/

/-- RDID's frame is answered in SPI mode. -/
theorem served_rdid (hm : s.devMode = .spi) (hc : s.ccr = tmwRdidWord) (hd : s.dlr = 7) : Served s := by
  have hshape : s.shape = ⟨.one, 0x9F, some ⟨.one, .a24, sentAddress .a24 s.ar⟩, none, 0, some ⟨.one, .read, 8⟩⟩ := by
    rw [shape_tmwPack s 0b01 0b01 0 0b00 0b10 0b01 .one 0x9F hc rfl, hd]
    rfl
  have hans : answerTo s s.shape = .readId := by
    rw [hshape]
    exact answerTo_spi (.inl ⟨hm, rfl⟩) hm 0x9F rfl (by decide)
  exact ⟨hc ▸ by decide, hans ▸ nofun, hans ▸ fun _ _ => rfl⟩

/-- A quad read with six dummy cycles is answered in QPI mode. -/
theorem answerTo_quadRead {f : FrameShape} {a : AddrPhase} {n : Nat} (hm : s.devMode = .qpi) (hil : f.ilines = s.par.quadIlines)
    (ho : f.opcode = 0xEB) (ha : f.addr = some a ∧ a.lines = .four) (halt : optionalAlt f = true) (hdummy : f.dummy = 6)
    (hd : f.data = some ⟨.four, .read, n⟩) : answerTo s f = .readMem a.value.toNat := by
  rw [answerTo_qpi (.inr ⟨hm, hil⟩) hm 0xEB ho (by decide)]
  simp [answerQpi, ho, hdummy, halt, readShape, addrOn, ha.1, ha.2, dataOn, hd]

theorem optionalAlt_altCode (p : Params) (v : Byte) {f : FrameShape} (hf : f.alt = (linesOf (altCode p)).map fun l => ⟨l, v⟩) :
    optionalAlt f = true := by
  rw [optionalAlt, hf, altCode]
  cases p.altEn <;> rfl

/-- RDA's frame as READ sends it is answered in QPI mode. -/
theorem served_rda {a : Word} (hp : s.par = p) (hm : s.devMode = .qpi) (hc : s.ccr = tmwOfRda p 0xEB .four a) : Served s := by
  have hshape :=
    shape_tmwPack s 0b01 0b11 Config.dummyQuadRead (altCode p) (asizeCode (asizeOf a.toNat)) 0b11 (ciLines p .four) 0xEB hc rfl
  have hans : ∃ x, answerTo s s.shape = .readMem x :=
    ⟨_, answerTo_quadRead hm (by rw [hshape, hp]; rfl) (by rw [hshape]) ⟨by rw [hshape]; rfl, rfl⟩
      (optionalAlt_altCode p _ (by rw [hshape])) (by rw [hshape]; rfl) (by rw [hshape]; rfl)⟩
  obtain ⟨x, hans⟩ := hans
  exact ⟨by simp [hc, tmwOfRda, ccrMapped], hans ▸ nofun, hans ▸ fun _ _ => rfl⟩

/-- A quad write is answered in QPI mode. -/
theorem answerTo_quadWrite {f : FrameShape} {a : AddrPhase} {n : Nat} (hm : s.devMode = .qpi) (hil : f.ilines = s.par.quadIlines)
    (ho : f.opcode = 0x38) (ha : f.addr = some a ∧ a.lines = .four) (hplain : f.alt = none ∧ f.dummy = 0)
    (hd : f.data = some ⟨.four, .write, n⟩) : answerTo s f = .writeMem a.value.toNat := by
  rw [answerTo_qpi (.inr ⟨hm, hil⟩) hm 0x38 ho (by decide)]
  simp [answerQpi, ho, writeShape, addrOn, ha.1, ha.2, plainFrame, hplain.1, hplain.2, dataOn, hd]

/-- The word of WRA as WRITE writes it, for at least one byte. -/
theorem tmwOfWra_write (p : Params) (a : Word) {len : Word} (hlen : len ≠ 0) :
    tmwOfWra p 0x38 .four a len
      = tmwPack 0b00 (lineCode .four) 0 0b00 (asizeCode (asizeOf a.toNat)) (lineCode .four) (lineCode (ciLines p .four)) 0x38 := by
  rw [tmwOfWra, if_neg (by simpa using hlen)]

/-- WRA's frame as WRITE sends it is answered in QPI mode. -/
theorem served_wra {a len : Word} (hp : s.par = p) (hm : s.devMode = .qpi) (hlen : len ≠ 0)
    (hc : s.ccr = tmwOfWra p 0x38 .four a len) : Served s := by
  rw [tmwOfWra_write p a hlen] at hc
  have hshape :=
    shape_tmwPack s 0b00 (lineCode .four) 0 0b00 (asizeCode (asizeOf a.toNat)) (lineCode .four) (ciLines p .four) 0x38 hc rfl
  have hans : ∃ x, answerTo s s.shape = .writeMem x :=
    ⟨_, answerTo_quadWrite hm (by rw [hshape, hp]; rfl) (by rw [hshape]) ⟨by rw [hshape]; rfl, rfl⟩
      ⟨by rw [hshape]; rfl, by rw [hshape]; rfl⟩ (by rw [hshape]; rfl)⟩
  obtain ⟨x, hans⟩ := hans
  exact ⟨by simp [hc, ccrMapped], hans ▸ nofun, hans ▸ fun _ _ => rfl⟩

/-! ### The checks -/

/-- What `common_pre` and MMAP_CFG check, in whatever order (42_transaction_primitives.md R182, R206). -/
structure Admits (s : State) : Prop where
  mode : s.mode = .indirectAccess
  enabled : crEn s.cr = true
  closed : windowClosed s = true
  read : busyReads s = false

theorem commonPre_cases (s : State) : halted (commonPre s) = true ∨ Admits s ∧ commonPre s = busyRead s := by
  simp only [commonPre, readBusy_eq]
  repeat' split
  · exact .inl rfl
  · exact .inl rfl
  · exact .inl rfl
  · exact .inl rfl
  next hm he hw hb =>
    exact .inr ⟨⟨by simpa using hm, by simpa using he, by simpa using hw, by simpa using hb⟩, rfl⟩

theorem mmapPre_cases (s : State) : halted (mmapPre s) = true ∨ Admits s ∧ mmapPre s = busyRead s := by
  simp only [mmapPre, readBusy_eq]
  repeat' split
  · exact .inl rfl
  · exact .inl rfl
  · exact .inl rfl
  · exact .inl rfl
  next he hb hm hw =>
    exact .inr ⟨⟨by simpa [busyRead] using hm, by simpa using he, by simpa using hw, by simpa using hb⟩, rfl⟩

/-- Checks that pass find the frame before them over. -/
theorem passes_checks {pre : Micro} (hpre : ∀ s, halted (pre s) = true ∨ Admits s ∧ pre s = busyRead s) :
    Passes (Framed p m) (Vacant p m Cleared) pre := by
  intro s hh hs hn
  have h := hs hh
  rcases hpre s with ht | ⟨ha, he⟩
  · exact going_of_halted ht hn
  · have hzero : s.busy = .zero := by
      rcases h.stands with ⟨hone, -⟩ | ⟨hzero, -⟩
      · have hread := ha.read
        simp [busyReads, hone] at hread
      · exact hzero
    have hsame : busyRead s = s := congrArg Prod.snd ((readBusy_eq s).symm.trans (readBusy_zero hzero))
    rw [he, hsame]
    exact h.vacant hzero ⟨ha.mode, ha.enabled, ha.closed, hzero⟩

/-! ### Up to the start of a frame -/

theorem stable_cleared : Stable (Vacant p m Cleared) := stable_vacant fun _ _ _ h => ⟨h.mode, h.enabled, h.closed, h.free⟩

theorem stable_dlr (d : Word) : Stable (Vacant p m fun s => s.dlr = d) := stable_vacant fun _ _ _ h => h

theorem stable_word (d v : Word) : Stable (Vacant p m fun s => s.dlr = d ∧ s.ccr = v) := stable_vacant fun _ _ _ h => h

theorem passes_clearTcf : Passes (Vacant p m Cleared) (Vacant p m Cleared) clearTcf := fun _ hh hs _ =>
  have h := hs hh
  { h with shut := { h.shut with }, known := ⟨h.known.mode, h.known.enabled, h.known.closed, h.known.free⟩ }

theorem passes_writeDlr (v : Word) : Passes (Vacant p m K) (Vacant p m fun s => s.dlr = v) (writeDlr v) := fun _ hh hs _ =>
  have h := hs hh
  { h with shut := { h.shut with }, known := rfl }

theorem passes_writeAlt (on : Bool) (hK : ∀ s v, K s → K { s with abr := v }) : Passes (Vacant p m K) (Vacant p m K) (writeAlt on) := by
  intro s hh hs _
  have h := hs hh
  rw [writeAlt_eq]
  exact { h with shut := { h.shut with }, known := hK s _ h.known }

/-- A word with an Addr phase starts no frame. -/
theorem passes_writeTmw {v d : Word} (hv : (ccrAl v == 0b00) = false) :
    Passes (Vacant p m fun s => s.dlr = d) (Vacant p m fun s => s.dlr = d ∧ s.ccr = v) (writeTmw v) := by
  intro s hh hs _
  have h := hs hh
  have hwait : (ccrIndirect v && ccrAl v == 0b00) = false := by rw [hv, Bool.and_false]
  rw [writeTmw_of_free v (fault_of_not_halted hh) h.free, modeWordWritten]
  simp only [hwait, Bool.false_eq_true, if_false]
  exact { h with shut := { h.shut with }, free := rfl, known := ⟨h.known, rfl⟩ }

/-- The address starts a frame that the device answers. -/
theorem passes_writeAr {v d : Word} (a : Word)
    (hserved : ∀ s : State, s.par = p → s.devMode = m → s.dlr = d → s.ccr = v → Served s) :
    Passes (Vacant p m fun s => s.dlr = d ∧ s.ccr = v) (Framed p m) (writeAr a) := by
  intro s hh hs _
  have h := hs hh
  obtain ⟨hdlr, hccr⟩ := h.known
  have hframe : Served (startFrame { s with ar := a }) := hserved _ h.shut.par h.dev hdlr hccr
  rcases writeAr_cases a s with ⟨he, -⟩ | he <;> rw [he]
  · exact ⟨{ h.shut with }, h.dev, .inl ⟨rfl, hframe⟩⟩
  · exact ⟨{ h.shut with }, h.dev, .inr ⟨h.free, h.idle, h.empty⟩⟩

/-! ### RDID and RDA -/

theorem passes_rdid : Passes (Framed p .spi) (Framed p .spi) (runMicros rdidSteps) :=
  passes_cons stable_framed (passes_checks commonPre_cases) <| passes_cons stable_cleared passes_clearTcf <|
    passes_cons stable_cleared (passes_writeDlr 7) <| passes_cons (stable_dlr 7) (passes_writeTmw rfl) <|
    passes_cons (stable_word 7 _) (passes_writeAr 0 fun _ _ hm hd hc => served_rdid hm hc hd) <|
    passes_cons stable_framed passes_readIdentification <| passes_nil fun _ => id

theorem passes_rda (a len q : Word) : Passes (Framed p .qpi) (Framed p .qpi) (runMicros (rdaSteps p 0xEB .four a len q)) :=
  passes_cons stable_framed (passes_checks commonPre_cases) <| passes_cons stable_cleared (passes_check (fun _ => _) _) <|
    passes_cons stable_cleared (passes_check (fun _ => _) _) <|
    passes_cons stable_cleared passes_clearTcf <| passes_cons stable_cleared (passes_writeDlr _) <|
    passes_cons (stable_dlr _) (passes_writeAlt _ fun _ _ h => h) <|
    passes_cons (stable_dlr _) (passes_writeTmw (by simp [tmwOfRda])) <|
    passes_cons (stable_word _ _) (passes_writeAr a fun _ hp hm _ hc => served_rda hp hm hc) <|
    passes_cons stable_framed (passes_drain _ _) <| passes_cons stable_framed passes_settle <| passes_nil fun _ => id

/-! ### WRA -/

/-- WRA's frame, which still waits for `n` bytes. -/
structure Fed (p : Params) (n : Nat) (s : State) : Prop where
  framed : Framed p .qpi s
  feeding : n ≠ 0 → Feeding n s

theorem stable_fed (n : Nat) : Stable (Fed p n) where
  wire s h := ⟨h.framed.wireStep, fun hn => (h.feeding hn).wireStep (Nat.pos_of_ne_zero hn) h.framed.shut.abort⟩
  access kind a k s h hn := by
    obtain ⟨e, he⟩ := mappedAccess_denied h.framed.shut.closed hn
    rw [he]
    exact ⟨{ h.framed with shut := h.framed.shut.emit e }, fun hz => (h.feeding hz).emit e⟩
  sched _ _ h := ⟨{ h.framed with shut := { h.framed.shut with } }, fun hz => { h.feeding hz with }⟩

/-- The address starts the frame, and it waits for all of its bytes. -/
theorem passes_writeAr_fed {a len : Word} (hlen : len ≠ 0) :
    Passes (Vacant p .qpi fun s => s.dlr = len - 1 ∧ s.ccr = tmwOfWra p 0x38 .four a len) (Fed p len.toNat) (writeAr a) := by
  intro s hh hs hn
  have h := hs hh
  obtain ⟨hdlr, hccr⟩ := h.known
  have hframed := passes_writeAr a (fun _ hp hm _ hc => served_wra hp hm hlen hc) s hh hs hn
  have hword : WriteWord s.ccr := by
    rw [hccr, tmwOfWra_write p a hlen]
    exact ⟨by simp, by simp⟩
  have haddr : ccrAl s.ccr ≠ 0b00 := by simp [hccr, tmwOfWra]
  have hlength : s.dlr.toNat + 1 = len.toNat := hdlr ▸ toNat_pred hlen
  have hstart : writeAr a s = startFrame { s with ar := a } := if_pos (by simpa [hword.indirect] using haddr)
  refine ⟨hframed, fun _ => ?_⟩
  rw [hstart]
  exact { busy := rfl, phase := ⟨nofun, nofun⟩, word := hword, count := by simp [h.empty, hlength] }

theorem passes_writeDr_fed (n : Nat) (v : Word) (s : State) (hh : halted s = false) (hroom : s.fifo.length < s.par.fifoDepth)
    (hs : Going (Fed p (n + 1)) s) : Going (Fed p n) (writeDr 1 v s) := by
  intro _
  obtain ⟨hframed, hfeeding⟩ := hs hh
  have hfeed := hfeeding (Nat.succ_ne_zero n)
  rcases writeDr_cases 1 v s with ⟨hfull, -⟩ | ⟨-, he⟩
  · omega
  rw [he]
  refine ⟨{ hframed with shut := { hframed.shut with }, stands := ?_ }, fun _ => { hfeed with count := ?_ }⟩
  · rcases hframed.stands with ⟨hone, hserved⟩ | ⟨hzero, -⟩
    · exact .inl ⟨hone, hserved⟩
    · exact absurd (hfeed.busy.symm.trans hzero) nofun
  · have hcount := hfeed.count
    simp only [List.length_append, List.length_take, leBytes, List.length_cons, List.length_nil]
    omega

theorem passes_pushBytes (n q : Nat) : Passes (Fed p n) (Framed p .qpi) (pushBytes n q) := fun s hh hs hn =>
  (pushBytes_leads (I := fun n => Going (Fed p n)) (fun n => (stable_fed n).closed) passes_writeDr_fed
    (fun _ _ ht _ => going_of_halted ht) n q s hh hs hn).framed

theorem passes_writeLength {len : Word} (hlen : len ≠ 0) :
    Passes (Vacant p m K) (Vacant p m fun s => s.dlr = len - 1) (writeLength len) := by
  have he : writeLength len = writeDlr (len - 1) := funext fun _ => if_neg (by simpa using hlen)
  exact he ▸ passes_writeDlr _

theorem passes_wra {len : Word} (hlen : len ≠ 0) (a q : Word) :
    Passes (Framed p .qpi) (Framed p .qpi) (runMicros (wraSteps p 0x38 .four a len q)) :=
  passes_cons stable_framed (passes_checks commonPre_cases) <| passes_cons stable_cleared passes_clearTcf <|
    passes_cons stable_cleared (passes_writeLength hlen) <| passes_cons (stable_dlr _) (passes_writeTmw (by simp [tmwOfWra])) <|
    passes_cons (stable_word _ _) (passes_writeAr_fed hlen) <| passes_cons (stable_fed _) (passes_pushBytes _ _) <|
    passes_cons stable_framed (stable_framed.closed.waitFor _ _) <| passes_cons stable_framed passes_settle <| passes_nil fun _ => id

/-! ### The CMD of INIT -/

/-- CMD 0x35 from the write of its mode word on: the frame of the instruction alone begins, it is complete and has taken the device into
QPI mode, it has left the wire. -/
structure Entering (p : Params) (s : State) : Prop where
  shut : Shut p s
  mode : s.mode = .indirectAccess
  enabled : crEn s.cr = true
  empty : s.fifo = []
  word : s.ccr = tmwOfCmd 0x35 .one
  stands : s.ph = .instr ∧ s.busy = .one ∧ s.devMode = .spi ∨ s.ph = .done ∧ s.busy = .one ∧ s.devMode = .qpi
    ∨ s.ph = .idle ∧ s.busy = .zero ∧ s.devMode = .qpi

theorem Entering.shape (h : Entering p s) : s.shape = cmdFrame 0x35 .one :=
  shape_tmwPack s 0b00 0b00 0 0b00 0b00 0b00 .one 0x35 h.word rfl

/-- A device in SPI mode enters QPI mode at the end of the frame (42_transaction_primitives.md R212). -/
theorem answerTo_enterQuad (hm : s.devMode = .spi) : answerTo s (cmdFrame 0x35 .one) = .enterQuad :=
  answerTo_spi (.inl ⟨hm, rfl⟩) hm 0x35 rfl (by decide)

/-- The instruction is sent; the frame has no other phase. -/
theorem Entering.wireStep_instr (h : Entering p s) (hp : s.ph = .instr) (hm : s.devMode = .spi) :
    wireStep s = s ∨ wireStep s = { s with io := phaseIo s, ph := .done, tcf := true, devMode := .qpi } := by
  have hans : answerTo s s.shape = .enterQuad := h.shape ▸ answerTo_enterQuad hm
  have hnext : nextPhase s.shape .instr = .done := h.shape ▸ rfl
  have hend : enterPhase .done { s with io := phaseIo s }
      = deviceEnd (answerTo s s.shape) s.wireBytes { s with io := phaseIo s, ph := .done, tcf := true } := rfl
  unfold wireStep
  rw [if_neg (by simp [h.shut.abort])]
  split
  · exact .inl rfl
  · right
    simp only [hp]
    rw [hnext, hans]
    exact hend.trans (by rw [hans]; rfl)

theorem Entering.wireStep (h : Entering p s) : Entering p (wireStep s) := by
  rcases h.stands with ⟨hp, hb, hm⟩ | ⟨hp, hb, hm⟩ | ⟨hp, -, -⟩
  · rcases h.wireStep_instr hp hm with he | he <;> rw [he]
    · exact h
    · exact { h with shut := { h.shut with }, stands := .inr (.inl ⟨rfl, hb, rfl⟩) }
  · have he : Machine.wireStep s = s ∨ Machine.wireStep s = endFrame s := by
      unfold Machine.wireStep
      rw [if_neg (by simp [h.shut.abort]), hp]
      split
      · exact .inl rfl
      · exact .inr rfl
    rcases he with he | he <;> rw [he]
    · exact h
    · rw [endFrame, refreshBusy_eq]
      exact { h with shut := { h.shut with }, stands := .inr (.inr ⟨rfl, if_pos ⟨hb, rfl, h.empty⟩, hm⟩) }
  · rwa [wireStep_still s h.shut.abort (.inr hp)]

theorem stable_entering : Stable (Entering p) where
  wire _ h := h.wireStep
  access kind a k s h hn := by
    obtain ⟨e, he⟩ := mappedAccess_denied h.shut.closed hn
    exact he ▸ { h with shut := h.shut.emit e }
  sched rest s h := { h with shut := { h.shut with } }

/-- A word without an Addr phase starts the frame. -/
theorem passes_writeTmw_entering : Passes (Vacant p .spi Cleared) (Entering p) (writeTmw (tmwOfCmd 0x35 .one)) := by
  intro s hh hs _
  have h := hs hh
  have hstart : (ccrIndirect (tmwOfCmd 0x35 .one) && ccrAl (tmwOfCmd 0x35 .one) == 0b00) = true := by simp [tmwOfCmd, ccrIndirect]
  rw [writeTmw_of_free _ (fault_of_not_halted hh) h.free, modeWordWritten]
  simp only [hstart, if_true]
  exact
    { shut := { h.shut with }, mode := h.known.mode, enabled := h.known.enabled, empty := h.empty, word := rfl
      stands := .inl ⟨rfl, rfl, h.dev⟩ }

theorem passes_cmd_enterQuad :
    Passes (Framed p .spi) (fun s => Entering p s ∧ wireIdle s = true) (runMicros (cmdSteps 0x35 .one)) :=
  passes_cons stable_framed (passes_checks commonPre_cases) <| passes_cons stable_cleared passes_clearTcf <|
    passes_cons stable_cleared passes_writeTmw_entering <|
    passes_cons stable_entering (stable_entering.closed.waitFor _ _) <|
    passes_cons stable_entering (stable_entering.passes_waitFor _ _) <| passes_nil fun _ => id

end Sys2Proof.Machine
end

section
/-! PROOF. O55, INIT, READ and WRITE under any schedule (43_bus_mode_arbitration.md R230): what stands between two library operations, what
ACQUIRE makes of it, and what RELEASE leaves. -/

namespace Sys2Proof.Machine

variable {p : Params} {m : DevMode} {s : State} {K : State → Prop}

/-! ### Under the memory-mapped word -/

/-- The frame of an access under the memory-mapped word (44_access_library.md R251). -/
theorem shape_mmap (s : State) (hc : s.ccr = tmwOfMmap p) :
    s.shape = ⟨ciLines p .four, 0xEB, some ⟨.four, asizeMapped p, sentAddress (asizeMapped p) s.mapAddr⟩,
      (linesOf (altCode p)).map fun l => ⟨l, s.abr.extractLsb' 0 8⟩, 6, some ⟨.four, .read, s.mapLen⟩⟩ := by
  have hmap : ccrMapped s.ccr = true := by simp [hc, tmwOfMmap, ccrMapped]
  rw [State.shape, if_pos hmap]
  simp only [shapeMapped, shapeOf, hc, tmwOfMmap, tmwPack_opcode, tmwPack_il, tmwPack_abl, tmwPack_dummy, tmwPack_size, ccrAl_tmwPack,
    ccrDl_tmwPack, ccrFm_tmwPack, linesOf_lineCode, asizeOfBit_asizeCode]
  rfl

/-- It is answered in QPI mode. -/
theorem answerTo_mmap (hp : s.par = p) (hm : s.devMode = .qpi) (hc : s.ccr = tmwOfMmap p) : ∃ x, answerTo s s.shape = .readMem x := by
  have hshape := shape_mmap s hc
  exact ⟨_, answerTo_quadRead hm (by rw [hshape, hp]; rfl) (by rw [hshape]) ⟨by rw [hshape], rfl⟩
    (optionalAlt_altCode p _ (by rw [hshape])) (by rw [hshape]) (by rw [hshape])⟩

/-- What may stand on the wire between library operations: nothing, or a memory-mapped frame that still reads ahead. An access finds the
window closed or the memory-mapped word in `CCR`. -/
structure Resting (p : Params) (s : State) : Prop where
  par : s.par = p
  abort : crAbort s.cr = false
  enabled : crEn s.cr = true
  empty : s.fifo = []
  dev : s.devMode = .qpi
  guarded : windowClosed s = true ∨ s.ccr = tmwOfMmap p
  wire : s.ph = .idle ∨ s.ph = .data ∧ s.busy = .drawn ∧ s.ccr = tmwOfMmap p

/-- The frame leaves the wire. -/
theorem Resting.endFrame (h : Resting p s) : Resting p (endFrame s) ∧ (endFrame s).ph = .idle := by
  rw [Machine.endFrame, refreshBusy_eq]
  exact ⟨{ h with wire := .inl rfl }, rfl⟩

/-- A byte is read ahead and discarded, or the frame ends. -/
theorem Resting.wireStep (h : Resting p s) : Resting p (wireStep s) := by
  rcases h.wire with hidle | ⟨hdata, hb, hc⟩
  · rwa [wireStep_still s h.abort (.inr hidle)]
  have hmap : ccrMapped s.ccr = true := by simp [hc, tmwOfMmap, ccrMapped]
  have hmoved (bytes : List Byte) (d : Nat) (io : LineClock) : Resting p { s with wireBytes := bytes, draws := d, io := io } := { h with }
  unfold Machine.wireStep
  rw [if_neg (by simp [h.abort]), hdata, shape_mmap s hc]
  simp only [hmap, if_true, wireMapped]
  split
  · exact h
  split
  · exact hmoved _ _ _
  · exact (hmoved _ _ _).endFrame.1

theorem Resting.finishMapped (h : Resting p s) : Resting p (finishMapped s) := by
  have hmoved (bytes : List Byte) (d : Nat) : Resting p { s with wireBytes := bytes, draws := d } := { h with }
  unfold Machine.finishMapped
  split
  · exact h
  · exact (hmoved _ _).endFrame.1

/-- A served access leaves its frame whole, or reading ahead. -/
theorem Resting.serveMapped (h : Resting p s) (hc : s.ccr = tmwOfMmap p) (kind : CpuKind) (a : Word) (k : CpuSize) :
    Resting p (serveMapped kind a k s) := by
  have hdata : (beginMapped a (sizeBytes k) s).shape.data.isNone = false := by
    rw [shape_mmap (beginMapped a (sizeBytes k) s) hc]
    rfl
  obtain ⟨x, hans⟩ := answerTo_mmap (s := beginMapped a (sizeBytes k) s) h.par h.dev hc
  have hlatch (t : State) : deviceLatch (.readMem x) t = t := rfl
  have hans' : answerTo s (beginMapped a (sizeBytes k) s).shape = .readMem x := hans
  unfold Machine.serveMapped
  simp only [hdata, hans', hlatch, Bool.false_or, Bool.false_eq_true, if_false]
  exact
    { h with
      empty := rfl
      guarded := .inr hc
      wire := by
        split
        · exact .inl rfl
        · exact .inr ⟨rfl, rfl, hc⟩ }

theorem Resting.mappedAccess (h : Resting p s) {kind : CpuKind} {a : Word} {k : CpuSize} (hn : halted (mappedAccess kind a k s) = false) :
    Resting p (mappedAccess kind a k s) := by
  have hemit (e : Event) {t : State} (ht : Resting p t) : Resting p (emit e t) := { ht with }
  rcases h.guarded with hclosed | hc
  · obtain ⟨e, he⟩ := mappedAccess_denied hclosed hn
    exact he ▸ hemit e h
  · have hf := fault_of_not_halted hn
    rcases mappedAccess_cases kind a k s with he | he | he | he | he | he | he <;> rw [he] at hf ⊢
    · exact hemit _ h
    · exact hemit _ h
    · cases hf
    · cases hf
    · cases hf
    · cases hf
    · exact (hemit _ h.finishMapped).serveMapped ((kept_finishMapped s).ccr.trans hc) kind a k

theorem stable_resting : Stable (Resting p) where
  wire _ h := h.wireStep
  access _ _ _ _ h hn := h.mappedAccess hn
  sched _ _ h := { h with }

/-! ### ACQUIRE -/

theorem stable_restingClosed : Stable fun s => Resting p s ∧ windowClosed s = true :=
  stable_resting.and_kept (fun _ _ hk h => hk.windowClosed.trans h) fun _ _ h => h

theorem passes_denyStep_resting : Passes (Resting p) (fun s => Resting p s ∧ windowClosed s = true) denyStep := by
  intro s hh hs _
  rw [denyStep_eq_closed]
  exact ⟨{ hs hh with guarded := .inl (windowClosed_closed s) }, windowClosed_closed s⟩

/-- ACQUIRE behind its read of `SR.BUSY`: an abort is requested, or the wire is idle. -/
structure Recovering (p : Params) (s : State) : Prop where
  par : s.par = p
  closed : windowClosed s = true
  dev : s.devMode = .qpi
  stands : crAbort s.cr = true ∨ crAbort s.cr = false ∧ s.busy = .zero ∧ s.ph = .idle ∧ s.fifo = []

theorem stable_recovering : Stable (Recovering p) where
  wire s h := by
    rcases h.stands with hpending | ⟨hnone, -, hidle, -⟩
    · rw [wireStep_abort s hpending, completeAbort_eq]
      exact { h with stands := .inr ⟨crAbort_clear _, rfl, rfl, rfl⟩ }
    · rwa [wireStep_still s hnone (.inr hidle)]
  access kind a k s h hn := by
    obtain ⟨e, he⟩ := mappedAccess_denied h.closed hn
    exact he ▸ { h with }
  sched _ _ h := { h with }

theorem passes_abortIfBusy : Passes (fun s => Resting p s ∧ windowClosed s = true) (Recovering p) abortIfBusy := by
  intro s hh hs hn
  obtain ⟨h, hclosed⟩ := hs hh
  simp only [abortIfBusy, readBusy_eq] at hn ⊢
  split at hn
  next hb =>
    rw [if_pos hb]
    have hi : Going (fun s => Resting p s ∧ windowClosed s = true) (interleave (busyRead s)) :=
      stable_restingClosed.closed.interleave _ hh fun _ => ⟨{ h with }, hclosed⟩
    split at hn
    next ht => exact absurd ht (by simp [hn])
    next ht =>
      obtain ⟨hr, hc⟩ := hi (Bool.eq_false_of_not_eq_true ht)
      rw [if_neg ht]
      exact { par := hr.par, closed := hc, dev := hr.dev, stands := .inl (crAbort_set _) }
  next hb =>
    rw [if_neg hb]
    have hidle : s.ph = .idle := by
      rcases h.wire with hidle | ⟨hdata, hdrawn, -⟩
      · exact hidle
      · simp [busyReads, hdata, hdrawn] at hb
    exact { par := h.par, closed := hclosed, dev := h.dev, stands := .inr ⟨h.abort, rfl, hidle, h.empty⟩ }

theorem passes_waitAbort : Passes (Recovering p) (Framed p .qpi) waitAbort := by
  intro s hh hs hn
  have h := stable_recovering.closed.waitLoop abortDone .abortComplete 1 s hh hs hn
  have hdone : crAbort (waitAbort s).cr = false := by
    simpa [abortDone, waitAbort] using waitLoop_cond abortDone .abortComplete 1 s hn
  have hidle := h.stands.resolve_left fun hpending => absurd (hdone.symm.trans hpending) nofun
  exact ⟨⟨h.par, h.closed, hdone⟩, h.dev, .inr hidle.2⟩

theorem passes_setMode_framed (x : Mode) : Passes (Framed p m) (Framed p m) (setMode x) := fun _ hh hs _ =>
  have h := hs hh
  { h with shut := { h.shut with } }

theorem passes_acquirePre {P : State → Prop} : Passes P P acquirePre := by
  refine passes_of_cases fun s => ?_
  unfold acquirePre
  split
  · exact .inr rfl
  · exact .inl rfl

theorem passes_acquire : Passes (Resting p) (Framed p .qpi) (runMicros acquireSteps) :=
  passes_cons stable_resting passes_acquirePre <|
    passes_cons stable_resting passes_denyStep_resting <| passes_cons stable_restingClosed passes_abortIfBusy <|
    passes_cons stable_recovering passes_waitAbort <| passes_cons stable_framed (passes_setMode_framed _) <| passes_nil fun _ => id

/-! ### RELEASE -/

/-- The memory-mapped word stands in `CCR`, and no frame has started (42_transaction_primitives.md R206). -/
theorem passes_writeTmw_mmap : Passes (Vacant p .qpi Cleared) (fun s => Resting p s ∧ s.ccr = tmwOfMmap p) (writeTmw (tmwOfMmap p)) := by
  intro s hh hs _
  have h := hs hh
  rw [writeTmw_of_free _ (fault_of_not_halted hh) h.free, modeWordWritten_of_not_indirect (ccrIndirect_mmap p) h.free]
  exact
    ⟨{ par := h.shut.par, abort := h.shut.abort, enabled := h.known.enabled, empty := h.empty, dev := h.dev, guarded := .inr rfl
       wire := .inl h.idle }, rfl⟩

theorem stable_mapped : Stable fun s => Resting p s ∧ s.ccr = tmwOfMmap p :=
  stable_resting.and_kept (fun _ _ hk h => hk.ccr.trans h) fun _ _ h => h

theorem stable_mappedOpen : Stable fun s => (Resting p s ∧ s.ccr = tmwOfMmap p) ∧ windowOpen s = true :=
  stable_mapped.and_kept (fun _ _ hk h => hk.windowOpen.trans h) fun _ _ h => h

theorem passes_allowStep (hp : paramsLegal p = true) :
    Passes (fun s => Resting p s ∧ s.ccr = tmwOfMmap p)
      (fun s => (Resting p s ∧ s.ccr = tmwOfMmap p) ∧ windowOpen s = true) allowStep := by
  intro s hh hs _
  obtain ⟨h, hc⟩ := hs hh
  rw [allowStep_eq_opened]
  exact ⟨⟨{ h with guarded := .inr hc }, hc⟩, windowOpen_opened (h.par ▸ hp)⟩

/-- What RELEASE leaves (43_bus_mode_arbitration.md R226). -/
structure Released (p : Params) (s : State) : Prop where
  resting : Resting p s
  word : s.ccr = tmwOfMmap p
  opened : windowOpen s = true
  mode : s.mode = .memoryMapped

theorem passes_release (hp : paramsLegal p = true) : Passes (Framed p .qpi) (Released p) (runMicros (releaseSteps p)) := by
  have hmode : Passes (fun s => (Resting p s ∧ s.ccr = tmwOfMmap p) ∧ windowOpen s = true) (Released p) (setMode .memoryMapped) := by
    intro s hh hs _
    obtain ⟨⟨h, hc⟩, ho⟩ := hs hh
    exact { resting := { h with }, word := hc, opened := ho, mode := rfl }
  exact passes_cons stable_framed (passes_check (fun s => s.mode == .indirectAccess) _) <|
    passes_cons stable_framed (passes_checks mmapPre_cases) <| passes_cons stable_cleared (passes_writeAlt _ fun _ _ h => ⟨h.mode, h.enabled, h.closed, h.free⟩) <|
    passes_cons stable_cleared passes_writeTmw_mmap <| passes_cons stable_mapped (passes_allowStep hp) <|
    passes_cons stable_mappedOpen hmode <| passes_nil fun _ => id

/-! ### READ and WRITE -/

theorem passes_accessPre {P : State → Prop} (r : MisuseReason) (a len : Word) : Passes P P (accessPre r a len) := by
  refine passes_of_cases fun s => ?_
  unfold accessPre
  repeat' split
  · exact .inr rfl
  · exact .inr rfl
  · exact .inl rfl

theorem passes_read (hp : paramsLegal p = true) {len : Word} (hlen : len ≠ 0) (a q : Word) :
    Passes (Resting p) (Released p) (runMicros (readSteps p a len q)) := by
  rw [readSteps, if_neg (by simpa using hlen)]
  exact passes_cons stable_resting (passes_accessPre _ _ _) <|
    passes_append (passes_append passes_acquire (passes_rda a len q)) (passes_release hp)

theorem passes_write (hp : paramsLegal p = true) {len : Word} (hlen : len ≠ 0) (a q : Word) :
    Passes (Resting p) (Released p) (runMicros (writeSteps p a len q)) := by
  rw [writeSteps, if_neg (by simpa using hlen)]
  exact passes_cons stable_resting (passes_accessPre _ _ _) <|
    passes_append (passes_append passes_acquire (passes_wra hlen a q)) (passes_release hp)

theorem LibraryReady.resting (h : LibraryReady s) : Resting s.par s := by
  obtain ⟨-, hempty, habort, -, -, hen, hdev, hbracketed⟩ := h
  rcases hbracketed with ⟨-, hclosed, -, hidle⟩ | ⟨-, -, hc, hwire⟩
  · exact ⟨rfl, habort, hen, hempty, hdev, .inl hclosed, .inl hidle⟩
  · exact ⟨rfl, habort, hen, hempty, hdev, .inr hc, hwire.imp_right fun ⟨hdata, hb⟩ => ⟨hdata, hb, hc⟩⟩

/-- What RELEASE leaves is a state in which the library may be called. -/
theorem Released.libraryReady (h : Released p s) (hp : ParamsOk p) (hr : p.responsive = true) (hf : s.fault = none) : LibraryReady s := by
  obtain ⟨hrest, hc, ho, hmode⟩ := h
  have hpar := hrest.par
  refine ⟨hf, hrest.empty, hrest.abort, hpar ▸ hp, hpar ▸ hr, hrest.enabled, hrest.dev, .inr ⟨hmode, ho, hpar ▸ hc, ?_⟩⟩
  exact hrest.wire.imp_right fun ⟨hdata, hb, _⟩ => ⟨hdata, hb⟩

/-- READ and WRITE of at least one byte. -/
theorem libraryReady_of_access {i : Instr} {ms : List Micro} {t : State} (hs : LibraryReady s) (hi : workOf s.par i = .operation ms)
    (hms : Passes (Resting s.par) (Released s.par) (runMicros ms)) (he : exec i s = .next t) (hd : t.opDone = true) :
    LibraryReady t ∧ t.mode = .memoryMapped ∧ windowOpen t = true ∧ t.ccr = tmwOfMmap t.par := by
  have hbegin : Resting s.par (beginOp s) := { hs.resting with }
  obtain ⟨r, hr, hf, rfl⟩ := exists_of_exec hi hms hbegin he hd
  obtain ⟨-, -, -, hp, hresp, -⟩ := hs
  exact ⟨hr.libraryReady hp hresp hf, hr.mode, hr.opened, hr.resting.par ▸ hr.word⟩

/-- READ and WRITE of no bytes run nothing (44_access_library.md R244). -/
theorem libraryReady_of_nothing {i : Instr} {t : State} (hs : LibraryReady s) (hi : workOf s.par i = .operation [])
    (he : exec i s = .next t) (hd : t.opDone = true) : LibraryReady t := by
  obtain ⟨r, hr, -, rfl⟩ := exists_of_exec (P := LibraryReady) hi (passes_nil fun _ => id) hs he hd
  exact hr

/-! ### INIT -/

/-- Before the peripheral reset: the window closed and nothing on the wire; of the registers nothing is known. -/
structure Dormant (p : Params) (s : State) : Prop where
  par : s.par = p
  closed : windowClosed s = true
  idle : s.ph = .idle
  dev : s.devMode = .spi

theorem stable_dormant : Stable (Dormant p) where
  wire s h := by
    cases ha : crAbort s.cr with
    | true =>
      rw [wireStep_abort s ha, completeAbort_eq]
      exact { h with idle := rfl }
    | false => rwa [wireStep_still s ha (.inr h.idle)]
  access kind a k s h hn := by
    obtain ⟨e, he⟩ := mappedAccess_denied h.closed hn
    exact he ▸ { h with }
  sched _ _ h := { h with }

theorem passes_peripheralReset : Passes (Dormant p) (Framed p .spi) peripheralReset := by
  intro s hh hs _
  have h := hs hh
  rw [peripheralReset, emitCutOff_eq]
  exact ⟨⟨h.par, h.closed, by simp [crAbort]⟩, h.dev, .inr ⟨rfl, rfl, rfl⟩⟩

theorem passes_enablePins : Passes (Dormant p) (Dormant p) enablePins := fun _ hh hs _ => { hs hh with }

theorem passes_loadCr : Passes (Framed p m) (Framed p m) (loadCr (crWord p)) := fun _ hh hs _ =>
  have h := hs hh
  have hcr : crAbort (crWord p) = false := (crPack_legal _ _ _).2
  { h with shut := { h.shut with abort := hcr } }

theorem passes_loadDcr (v : Word) : Passes (Framed p m) (Framed p m) (loadDcr v) := fun _ hh hs _ =>
  have h := hs hh
  { h with shut := { h.shut with } }

theorem passes_denyStep : Passes (Framed p m) (Framed p m) denyStep := by
  intro s hh hs _
  have h := hs hh
  rw [denyStep_eq_closed]
  exact { h with shut := { h.shut with closed := windowClosed_closed s } }

theorem passes_configure : Passes (Dormant p) (Framed p .spi) (runMicros (configureSteps p)) :=
  passes_cons stable_dormant (passes_check (fun s => paramsLegal s.par) _) <| passes_cons stable_dormant passes_enablePins <|
    passes_cons stable_dormant passes_peripheralReset <| passes_cons stable_framed passes_loadCr <|
    passes_cons stable_framed (passes_loadDcr _) <| passes_nil fun _ => id

theorem passes_initialise : Passes (Dormant p) (Framed p .spi) (runMicros (initialiseSteps p)) :=
  passes_append passes_configure <| passes_cons stable_framed passes_denyStep <|
    passes_cons stable_framed (passes_setMode_framed _) <| passes_nil fun _ => id

theorem passes_init : Passes (Dormant p) (fun s => Entering p s ∧ wireIdle s = true) (runMicros (initSteps p)) :=
  passes_append (passes_append passes_initialise passes_rdid) passes_cmd_enterQuad

/-- What INIT leaves is a state in which the library may be called. -/
theorem Entering.libraryReady (h : Entering p s) (hi : wireIdle s = true) (hp : ParamsOk p) (hr : p.responsive = true)
    (hf : s.fault = none) : LibraryReady s := by
  have hpar := h.shut.par
  have hidle : s.ph = .idle := eq_of_beq hi
  have hend : s.busy = .zero ∧ s.devMode = .qpi := by
    rcases h.stands with ⟨hph, -⟩ | ⟨hph, -⟩ | ⟨-, hend⟩
    · exact absurd (hph.symm.trans hidle) nofun
    · exact absurd (hph.symm.trans hidle) nofun
    · exact hend
  obtain ⟨hfree, hdev⟩ := hend
  exact ⟨hf, h.empty, h.shut.abort, hpar ▸ hp, hpar ▸ hr, h.enabled, hdev, .inl ⟨h.mode, h.shut.closed, hfree, hidle⟩⟩

/-- Settles O55: what each operation knows between its micro-steps no other agent takes from it, from the state in which it is called to the
one it leaves. -/
theorem libraryKeepsTheBracketing : Obligations.LibraryKeepsTheBracketing := by
  refine ⟨fun s t hf hp hr hdev hidle hclosed he _ hd => ?init, fun s t a len q hs he _ hd => ?access⟩
  case init =>
    obtain ⟨r, ⟨hr', hi⟩, hf', rfl⟩ := exists_of_exec rfl passes_init (s := s) ⟨rfl, hclosed, hidle, hdev⟩ he hd
    exact hr'.libraryReady hi hp hr hf'
  case access =>
    have hlegal : paramsLegal s.par = true := by
      obtain ⟨-, -, -, ⟨hlegal, -⟩, -⟩ := hs
      exact hlegal
    by_cases hlen : len = 0
    · subst hlen
      have ht : LibraryReady t := by
        rcases he with he | he
        · exact libraryReady_of_nothing hs rfl he hd
        · exact libraryReady_of_nothing hs rfl he hd
      exact ⟨ht, fun hne => absurd rfl hne⟩
    · have ht : LibraryReady t ∧ t.mode = .memoryMapped ∧ windowOpen t = true ∧ t.ccr = tmwOfMmap t.par := by
        rcases he with he | he
        · exact libraryReady_of_access hs rfl (passes_read hlegal hlen a q) he hd
        · exact libraryReady_of_access hs rfl (passes_write hlegal hlen a q) he hd
      obtain ⟨hready, hmapped⟩ := ht
      exact ⟨hready, fun _ => hmapped⟩

end Sys2Proof.Machine
end

section
/-! PROOF. O17, updates that the wire engine does not see. An update of the queue of bytes, the trace, the schedule, the caller's buffer or
`op_word` may be made before or after a step of the wire engine. -/

namespace Sys2Proof.Machine

/-! ### The wire engine, phase by phase -/

/-- The engine's step in a Data phase, or where the frame has none. -/
def dataStep (d : Option DataShape) (s : State) : State :=
  match d with
  | some d => if ccrMapped s.ccr then wireMapped d s else wireData d s
  | none => enterPhase .done s

/-- The engine's step in phase `p` on hardware that answers, when no abort is requested; `wireStep_eq` ties it to the model. -/
def phaseStep (p : Phase) (s : State) : State :=
  match p with
  | .idle => s
  | .instr => enterPhase (nextPhase s.shape .instr) (deviceLatch (answerTo s s.shape) { s with io := phaseIo s })
  | .addr => enterPhase (nextPhase s.shape .addr) { s with io := phaseIo s }
  | .alt => enterPhase (nextPhase s.shape .alt) { s with io := phaseIo s }
  | .dummy => enterPhase (nextPhase s.shape .dummy) { s with io := phaseIo s }
  | .data => dataStep s.shape.data s
  | .done => endFrame s

theorem wireStep_eq {s : State} (ha : NoAbort s) (hr : s.par.responsive = true) : wireStep s = phaseStep s.ph s := by
  have ha : crAbort s.cr = false := ha
  unfold wireStep
  rw [if_neg (by simp [ha]), if_neg (by simp [hr])]
  split
  all_goals
    next hp => exact (congrArg (phaseStep · s) hp).symm

/-! ### Updates -/

/-- An update of what the wire engine only passes bytes or events to, or does not read at all. -/
structure Touch where
  fifo : List Byte → List Byte := id
  trace : List Event → List Event := id
  sched : List (List Turn) → List (List Turn) := id
  buf : Memory → Memory := id
  opWord : Word → Word := id

def Touch.on (f : Touch) (s : State) : State :=
  { s with fifo := f.fifo s.fifo, trace := f.trace s.trace, sched := f.sched s.sched, buf := f.buf s.buf, opWord := f.opWord s.opWord }

/-- The update keeps the events of frames apart from what was recorded before. -/
def Touch.Framewise (f : Touch) : Prop := ∀ es x, f.trace (es ++ [.frame x]) = f.trace es ++ [.frame x]

section Touch

variable (f : Touch) (s : State)

theorem Touch.deviceLatch (ans : DevAnswer) : deviceLatch ans (f.on s) = f.on (deviceLatch ans s) := by
  unfold Machine.deviceLatch
  split <;> rfl

theorem Touch.devWriteByte (ans : DevAnswer) (i : Nat) (b : Byte) : devWriteByte ans i b (f.on s) = f.on (devWriteByte ans i b s) := by
  cases ans with
  | writeMem a =>
    change (if a + i < capBytes s.par then _ else _) = f.on (if a + i < capBytes s.par then _ else _)
    split <;> rfl
  | _ => rfl

theorem Touch.deviceEnd (ans : DevAnswer) (bytes : List Byte) : deviceEnd ans bytes (f.on s) = f.on (deviceEnd ans bytes s) := by
  cases ans <;> rfl

theorem Touch.enterPhase (p : Phase) : enterPhase p (f.on s) = f.on (enterPhase p s) := by
  unfold Machine.enterPhase
  split
  · exact f.deviceEnd { s with ph := .done, tcf := true } _ _
  · rfl

/-- A frame that leaves the wire, where the update does not decide whether the FIFO is empty. -/
theorem Touch.endFrame (hf : f.Framewise) (hempty : f.fifo s.fifo = [] ↔ s.fifo = []) : endFrame (f.on s) = f.on (endFrame s) := by
  have htrace : (f.on s).trace ++ [.frame (currentFrame (f.on s) false)] = f.trace (s.trace ++ [.frame (currentFrame s false)]) :=
    (hf _ _).symm
  have hfifo : (f.on s).fifo = [] ↔ s.fifo = [] := hempty
  simp only [Machine.endFrame, refreshBusy_eq, emit, htrace, hfifo]
  rfl

theorem Touch.wireMapped (d : DataShape) (hf : f.Framewise) (hempty : f.fifo s.fifo = [] ↔ s.fifo = []) :
    wireMapped d (f.on s) = f.on (wireMapped d s) := by
  have hend (bytes : List Byte) (n : Nat) (io : LineClock) :=
    f.endFrame { s with wireBytes := bytes, draws := n, io := io } hf hempty
  simp only [Machine.wireMapped, apply_ite f.on]
  exact if_congr Iff.rfl rfl (hend _ _ _)

/-- A byte of a frame that writes leaves a queue whose first byte the update keeps. -/
theorem Touch.wireData_write {d : DataShape} (hd : d.dir = .write) {b : Byte} {rest : List Byte} (hs : s.fifo = b :: rest)
    (hf : f.fifo (b :: rest) = b :: f.fifo rest) : wireData d (f.on s) = f.on (wireData d s) := by
  have hs' : (f.on s).fifo = b :: f.fifo rest := (congrArg f.fifo hs).trans hf
  have hsent : byteSent d b (f.fifo rest) (f.on s) = f.on (byteSent d b rest s) :=
    f.devWriteByte { s with fifo := rest, wireBytes := s.wireBytes ++ [b], io := (byteClocks d.lines .write b).getLastD s.io } _ _ _
  have hstep (t : State) {c : List Byte} (ht : t.fifo = b :: c) : wireData d t
      = if t.wireBytes.length + 1 < d.len then byteSent d b c t else Machine.enterPhase .done (byteSent d b c t) := by
    simp only [wireData, hd, ht]
    rfl
  rw [hstep _ hs', hstep _ hs, hsent, f.enterPhase, apply_ite f.on]
  rfl

/-- A byte of a frame that reads goes behind a queue of which the update keeps the end; the update does not fill the FIFO. -/
theorem Touch.wireData_read {d : DataShape} (hd : d.dir = .read) (hroom : s.fifo.length < s.par.fifoDepth)
    (hlen : (f.fifo s.fifo).length ≤ s.fifo.length) (hf : ∀ b, f.fifo (s.fifo ++ [b]) = f.fifo s.fifo ++ [b]) :
    wireData d (f.on s) = f.on (wireData d s) := by
  have hstep (t : State) (ht : t.fifo.length < t.par.fifoDepth) : wireData d t
      = if t.wireBytes.length + 1 < d.len then byteReceived d (devByte t (answerTo t t.shape) t.wireBytes.length t.draws) t
        else Machine.enterPhase .done (byteReceived d (devByte t (answerTo t t.shape) t.wireBytes.length t.draws) t) := by
    simp only [wireData, hd, if_neg (Nat.not_le.2 ht)]
    rfl
  have hroom' : (f.on s).fifo.length < (f.on s).par.fifoDepth := Nat.lt_of_le_of_lt hlen hroom
  have hreceived (b : Byte) : byteReceived d b (f.on s) = f.on (byteReceived d b s) := by
    have hb : (f.on s).fifo ++ [b] = f.fifo (s.fifo ++ [b]) := (hf b).symm
    simp only [byteReceived, hb]
    rfl
  rw [hstep _ hroom', hstep _ hroom, hreceived, f.enterPhase, apply_ite f.on]
  rfl

variable {f s}

/-- A step of the wire engine and the update, in either order. -/
theorem Touch.wireStep (ha : NoAbort s) (hf : f.Framewise)
    (hdata : s.ph = .data → ccrMapped s.ccr = false → ∀ d, s.shape.data = some d → wireData d (f.on s) = f.on (wireData d s))
    (hend : s.ph = .done ∨ ccrMapped s.ccr = true → (f.fifo s.fifo = [] ↔ s.fifo = [])) :
    wireStep (f.on s) = f.on (wireStep s) := by
  have ha' : NoAbort (f.on s) := ha
  cases hr : s.par.responsive with
  | false => rw [wireStep_still s ha (.inl hr), wireStep_still (f.on s) ha' (.inl hr)]
  | true =>
    rw [wireStep_eq ha hr, wireStep_eq ha' hr]
    change phaseStep s.ph (f.on s) = _
    cases hp : s.ph with
    | idle => rfl
    | instr => exact (congrArg (Machine.enterPhase _) (f.deviceLatch { s with io := phaseIo s } _)).trans (f.enterPhase _ _)
    | addr | alt | dummy => exact f.enterPhase { s with io := phaseIo s } _
    | done => exact f.endFrame s hf (hend (.inl hp))
    | data =>
      change dataStep s.shape.data (f.on s) = f.on (dataStep s.shape.data s)
      cases hd : s.shape.data with
      | none => exact f.enterPhase s _
      | some d =>
        change (if ccrMapped s.ccr then _ else _) = f.on (if ccrMapped s.ccr then _ else _)
        cases hm : ccrMapped s.ccr with
        | true => exact f.wireMapped s d hf (hend (.inr hm))
        | false => exact hdata hp hm d hd

/-- An update that leaves the FIFO as it is. -/
theorem Touch.wireStep_of_fifo (hfifo : f.fifo = id) (hf : f.Framewise) (ha : NoAbort s) :
    Machine.wireStep (f.on s) = f.on (Machine.wireStep s) := by
  have hid (l : List Byte) : f.fifo l = l := congrFun hfifo l
  refine Touch.wireStep ha hf (fun _ _ d _ => ?_) fun _ => by rw [hid]
  cases hd : d.dir with
  | write =>
    cases hs : s.fifo with
    | nil =>
      have hheld (t : State) (ht : t.fifo = []) : wireData d t = t := by simp [wireData, hd, ht]
      rw [hheld s hs, hheld (f.on s) ((hid _).trans hs)]
    | cons b rest => exact f.wireData_write s hd hs (by rw [hid, hid])
  | read =>
    by_cases hroom : s.fifo.length < s.par.fifoDepth
    · exact f.wireData_read s hd hroom (by rw [hid]) fun b => by rw [hid, hid]
    · have hheld (t : State) (ht : t.par.fifoDepth ≤ t.fifo.length) : wireData d t = t := by simp [wireData, hd, ht]
      have hfull : (f.on s).fifo.length = s.fifo.length := congrArg List.length (hid s.fifo)
      rw [hheld s (Nat.not_lt.1 hroom), hheld (f.on s) (hfull ▸ Nat.not_lt.1 hroom)]

end Touch

/-! ### The schedule and the CPU's accesses, erased -/

/-- Without the schedule and the CPU's accesses. -/
def hush : Touch where
  trace := ownEvents
  sched := fun _ => []

theorem ownEvents_append (xs ys : List Event) : ownEvents (xs ++ ys) = ownEvents xs ++ ownEvents ys := List.filter_append ..

theorem hush_wireStep {s : State} (ha : NoAbort s) : wireStep (hush.on s) = hush.on (wireStep s) :=
  Touch.wireStep_of_fifo (f := hush) rfl (fun es x => ownEvents_append es [.frame x]) ha

end Sys2Proof.Machine
end

section
/-! PROOF. O17, a run behind a closed window with the other agents' harmless turns between its steps. `Trails s t`: but for the schedule and
the CPU's accesses, `t` is `s` some steps of the wire engine later. -/

namespace Sys2Proof.Machine

variable {s t : State}

/-! ### Several steps of the wire engine -/

theorem kept_iterate (k : Nat) (s : State) : Kept s (wireStep^[k] s) := by
  induction k generalizing s with
  | zero => exact .refl s
  | succ k ih => exact (kept_wireStep s).trans (ih _)

theorem hush_iterate (k : Nat) {s : State} (ha : NoAbort s) : wireStep^[k] (hush.on s) = hush.on (wireStep^[k] s) := by
  induction k generalizing s with
  | zero => rfl
  | succ k ih =>
    rw [Function.iterate_succ_apply, Function.iterate_succ_apply, hush_wireStep ha]
    exact ih ((kept_wireStep s).abort ha)

theorem live_iterate (h : Live s) (k : Nat) : Live (wireStep^[k] s) := by
  induction k generalizing s with
  | zero => exact h
  | succ k ih => exact ih h.wireStep

theorem iterate_of_still (h : wireStep s = s) (k : Nat) : wireStep^[k] s = s := Function.iterate_fixed h k

/-- What each step of the wire engine keeps. -/
theorem iterate_keeps {P : State → Prop} (hP : ∀ s, P s → P (wireStep s)) (k : Nat) (hs : P s) : P (wireStep^[k] s) := by
  induction k generalizing s with
  | zero => exact hs
  | succ k ih => exact ih (hP s hs)

/-- An operation that commutes with each step that is not held commutes with several steps, of which some may be held. -/
theorem iterate_commute {U : State → State} {P : State → Prop} (hP : ∀ s, P s → P (wireStep s))
    (hU : ∀ s, P s → wireStep s = s ∨ U (wireStep s) = wireStep (U s)) (k : Nat) (hs : P s) :
    ∃ j, U (wireStep^[k] s) = wireStep^[j] (U s) := by
  induction k generalizing s with
  | zero => exact ⟨0, rfl⟩
  | succ k ih =>
    rw [Function.iterate_succ_apply]
    obtain ⟨j, hj⟩ := ih (hP s hs)
    rcases hU s hs with he | he
    · rw [he] at hj ⊢
      exact ⟨j, hj⟩
    · exact ⟨j + 1, by rw [hj, he, Function.iterate_succ_apply]⟩

/-! ### Behind a closed window -/

/-- Behind a closed window a speculative access is only recorded (44_access_library.md R250, R253). -/
theorem mappedAccess_spec_denied (hc : windowClosed s = true) (a : Word) (k : CpuSize) :
    ∃ v, mappedAccess .spec a k s = emit (.cpuAccess .spec a k v) s := by
  unfold mappedAccess
  by_cases hin : spanBase s.par ≤ a.toNat ∧ a.toNat + sizeBytes k ≤ spanBase s.par + Config.spanBytes
  · have hspan : inSpan s.par a.toNat = true := by
      have hsize : 1 ≤ sizeBytes k := by cases k <;> decide
      exact (inSpan_iff _ _).2 (by omega)
    have hdenied : allowed s a.toNat = false := (windowClosedIffAllDenied s).1 hc a.toNat hspan
    exact ⟨.denied, by simp [hin, hdenied]⟩
  · exact ⟨.outside, if_pos (by simpa using not_and_or.1 hin)⟩

/-- `t` is a run with harmless turns, behind a closed window, of which `s` is the run alone; `t` is `k` steps of the wire engine ahead. -/
structure TrailsBy (k : Nat) (s t : State) : Prop where
  live : Live s
  closed : windowClosed s = true
  harmless : HarmlessSched t
  later : hush.on t = wireStep^[k] (hush.on s)

def Trails (s t : State) : Prop := ∃ k, TrailsBy k s t

section TrailsBy

variable {k : Nat}

theorem TrailsBy.kept (h : TrailsBy k s t) : Kept (hush.on s) (hush.on t) := h.later ▸ kept_iterate k _

theorem TrailsBy.abort (h : TrailsBy k s t) : NoAbort t := h.kept.abort h.live.abort

theorem TrailsBy.par (h : TrailsBy k s t) : t.par = s.par := (congrArg State.par h.kept.still :)

theorem TrailsBy.buf (h : TrailsBy k s t) : t.buf = s.buf := (congrArg State.buf h.kept.still :)

theorem TrailsBy.running (h : TrailsBy k s t) : halted t = false := h.kept.halted.trans h.live.alone.running

theorem TrailsBy.windowClosed (h : TrailsBy k s t) : windowClosed t = true := h.kept.windowClosed.trans h.closed

/-- The run alone, as far as the wire engine has taken the other. -/
theorem TrailsBy.hush_eq (h : TrailsBy k s t) : hush.on t = hush.on (wireStep^[k] s) := h.later.trans (hush_iterate k h.live.abort)

/-- A later point of the run alone, of which the other is still ahead. -/
theorem TrailsBy.drop (h : TrailsBy k s t) {j : Nat} (hj : j ≤ k) : TrailsBy (k - j) (wireStep^[j] s) t where
  live := live_iterate h.live j
  closed := (kept_iterate j s).windowClosed.trans h.closed
  harmless := h.harmless
  later := by
    rw [← hush_iterate j h.live.abort, ← Function.iterate_add_apply, Nat.sub_add_cancel hj]
    exact h.later

theorem TrailsBy.wireStep (h : TrailsBy k s t) : TrailsBy (k + 1) s (wireStep t) where
  live := h.live
  closed := h.closed
  harmless := by
    have hsched : (Machine.wireStep t).sched = t.sched := (congrArg State.sched (kept_wireStep t).still :)
    exact fun slot hs => h.harmless slot (hsched ▸ hs)
  later := by rw [← hush_wireStep h.abort, h.later, Function.iterate_succ_apply']

theorem TrailsBy.takeTurn (h : TrailsBy k s t) {x : Turn} (hx : x.harmless = true) : ∃ j, k ≤ j ∧ TrailsBy j s (takeTurn x t) := by
  cases x with
  | wire => exact ⟨k + 1, Nat.le_succ k, h.wireStep⟩
  | cpu c =>
    obtain ⟨kind, a, size⟩ := c
    obtain rfl : kind = .spec := by simpa [Turn.harmless] using hx
    obtain ⟨v, hv⟩ := mappedAccess_spec_denied h.windowClosed a size
    have hown : hush.on (emit (.cpuAccess .spec a size v) t) = hush.on t := by
      have htrace : ownEvents (t.trace ++ [.cpuAccess .spec a size v]) = ownEvents t.trace := by
        rw [ownEvents_append]
        exact List.append_nil _
      simp only [Touch.on, emit, hush, htrace]
    refine ⟨k, Nat.le_refl k, ?_⟩
    change TrailsBy k s (mappedAccess .spec a size t)
    rw [hv]
    exact ⟨h.live, h.closed, h.harmless, hown.trans h.later⟩
  | present | unwind => cases hx

theorem TrailsBy.takeTurns (h : TrailsBy k s t) {xs : List Turn} (hx : ∀ x ∈ xs, x.harmless = true) :
    ∃ j, k ≤ j ∧ TrailsBy j s (takeTurns xs t) := by
  induction xs generalizing k t with
  | nil => exact ⟨k, Nat.le_refl k, h⟩
  | cons x xs ih =>
    obtain ⟨hfirst, hrest⟩ := List.forall_mem_cons.1 hx
    obtain ⟨j, hkj, hj⟩ := h.takeTurn hfirst
    obtain ⟨l, hjl, hl⟩ := ih hj hrest
    refine ⟨l, Nat.le_trans hkj hjl, ?_⟩
    simp only [Machine.takeTurns, hj.running, Bool.false_eq_true, if_false]
    exact hl

/-- Where the other agents may step they bring the wire engine forward. -/
theorem TrailsBy.interleave (h : TrailsBy k s t) : ∃ j, k ≤ j ∧ TrailsBy j s (interleave t) := by
  unfold Machine.interleave
  split
  · exact ⟨k, Nat.le_refl k, h⟩
  next xs rest hsched =>
    have hall := h.harmless
    rw [HarmlessSched, hsched] at hall
    obtain ⟨hfirst, hrest⟩ := List.forall_mem_cons.1 hall
    exact TrailsBy.takeTurns (t := { t with sched := rest }) ⟨h.live, h.closed, hrest, h.later⟩ hfirst

end TrailsBy

theorem Trails.live : Trails s t → Live s := fun ⟨_, h⟩ => h.live

theorem Trails.closed : Trails s t → windowClosed s = true := fun ⟨_, h⟩ => h.closed

theorem Trails.interleave : Trails s t → Trails s (interleave t) := fun ⟨_, h⟩ =>
  let ⟨j, _, hj⟩ := h.interleave
  ⟨j, hj⟩

theorem Trails.running : Trails s t → halted t = false := fun ⟨_, h⟩ => h.running

/-- While the wire is idle the two runs are at the same point. -/
theorem Trails.hush_eq (h : Trails s t) (hidle : s.ph = .idle) : hush.on t = hush.on s := by
  obtain ⟨k, h⟩ := h
  rw [h.hush_eq, iterate_of_still (wireStep_still s h.live.abort (.inr hidle))]

/-! ### Waits -/

/-- A wait that ends, no other agent stepping, ends at the first step of the wire engine after which its condition holds. -/
theorem waitLoop_first {cond : State → Bool} {w : Wait} {n : Nat} (h : Live s)
    (hn : halted (waitLoop cond w n s) = false) :
    ∃ j, j ≤ n ∧ waitLoop cond w n s = wireStep^[j] s ∧ cond (wireStep^[j] s) = true ∧ ∀ i < j, cond (wireStep^[i] s) = false := by
  cases hc : cond s with
  | true =>
    exact ⟨0, Nat.zero_le n, waitLoop_of_cond cond w n s h.alone.sched h.alone.running hc, hc,
      fun i hi => absurd hi (Nat.not_lt_zero i)⟩
  | false =>
    induction n generalizing s with
    | zero =>
      have he : waitLoop cond w 0 s = raiseHang w s := by simp [waitLoop, interleave_quiet s h.alone.sched, h.alone.running, hc]
      rw [he] at hn
      cases hn
    | succ n ih =>
      rw [waitLoop_step cond w n s h.alone.sched h.alone.running hc] at hn ⊢
      cases hc' : cond (wireStep s) with
      | true =>
        refine ⟨1, by omega, waitLoop_of_cond cond w n _ h.wireStep.alone.sched h.wireStep.alone.running hc', hc', fun i hi => ?_⟩
        obtain rfl : i = 0 := by omega
        exact hc
      | false =>
        obtain ⟨j, hjn, hj, hcj, hfirst⟩ := ih h.wireStep hn hc'
        refine ⟨j + 1, by omega, hj, hcj, fun i hi => ?_⟩
        cases i with
        | zero => exact hc
        | succ i => exact hfirst i (by omega)

/-- A condition that reads neither the schedule nor the CPU's accesses, and that no step of the wire engine after `s` takes back. -/
structure Rises (cond : State → Bool) (s : State) : Prop where
  hush : ∀ u, cond (hush.on u) = cond u
  keeps : ∀ j, cond (wireStep^[j] s) = true → cond (wireStep (wireStep^[j] s)) = true

theorem Rises.le {cond : State → Bool} (h : Rises cond s) {j k : Nat} (hjk : j ≤ k) (hj : cond (wireStep^[j] s) = true) :
    cond (wireStep^[k] s) = true := by
  induction hjk with
  | refl => exact hj
  | step _ ih => exact Function.iterate_succ_apply' .. ▸ h.keeps _ ih

/-- A wait that the run alone ends after `j` steps of the wire engine. -/
theorem trailsBy_waitLoop {cond : State → Bool} {w : Wait} {j k n : Nat} (h : TrailsBy k s t) (hr : Rises cond s)
    (hj : cond (wireStep^[j] s) = true) (hfirst : ∀ i < j, cond (wireStep^[i] s) = false) (hn : j ≤ k + n) :
    Trails (wireStep^[j] s) (waitLoop cond w n t) := by
  have hcond {l : Nat} {u : State} (hu : TrailsBy l s u) : cond u = cond (wireStep^[l] s) := by
    rw [← hr.hush u, hu.hush_eq, hr.hush]
  induction n generalizing k t with
  | zero =>
    obtain ⟨l, hkl, hl⟩ := h.interleave
    have hc : cond (interleave t) = true := (hcond hl).trans (hr.le (by omega) hj)
    simp only [waitLoop, hl.running, hc, Bool.false_eq_true, if_false, if_true]
    exact ⟨_, hl.drop (by omega)⟩
  | succ n ih =>
    obtain ⟨l, hkl, hl⟩ := h.interleave
    cases hc : cond (interleave t) with
    | true =>
      have hjl : j ≤ l := by
        by_contra hlt
        exact absurd ((hcond hl).symm.trans hc) (by simp [hfirst l (by omega)])
      simp only [waitLoop, hl.running, hc, Bool.false_eq_true, if_false, if_true]
      exact ⟨_, hl.drop hjl⟩
    | false =>
      simp only [waitLoop, hl.running, hc, Bool.false_eq_true, if_false]
      exact ih hl.wireStep (by omega)

/-- A wait that the run alone ends, the other ends too. -/
theorem Trails.waitFor {cond : State → Bool} {w : Wait} (h : Trails s t) (hr : Rises cond s) (hn : halted (waitFor cond w s) = false) :
    Trails (waitFor cond w s) (waitFor cond w t) := by
  obtain ⟨k, h⟩ := h
  have hdlr : t.dlr = s.dlr := h.kept.dlr
  have hfuel : frameFuel t = frameFuel s := by rw [frameFuel, hdlr, frameFuel]
  rw [waitFor_responsive cond w s h.live.responsive] at hn ⊢
  rw [waitFor_responsive cond w t (h.par ▸ h.live.responsive), hfuel]
  obtain ⟨j, hjn, he, hj, hfirst⟩ := waitLoop_first h.live hn
  rw [he]
  exact trailsBy_waitLoop h hr hj hfirst (by omega)

end Sys2Proof.Machine
end

section
/-! PROOF. O17, the reads and writes of `DR` while the wire engine runs ahead. In a frame that reads, bytes come in only behind those
that are popped; in one that writes and still waits for bytes, bytes go out only before those that are pushed. -/

namespace Sys2Proof.Machine

variable {s t : State}

/-! ### The FIFO from one step of the wire engine to the next -/

/-- An indirect frame that reads. -/
def Reading (s : State) : Prop := ccrFm s.ccr = 0b01

theorem Reading.unmapped (h : Reading s) : ccrMapped s.ccr = false := by
  rw [ccrMapped, h]
  rfl

theorem Reading.kept (h : Reading s) (hk : Kept s t) : Reading t := (congrArg ccrFm hk.ccr).trans h

/-- The direction of the data is that of the mode word (30_encoding.md R112). -/
theorem dir_of_shape (hm : ccrMapped s.ccr = false) {d : DataShape} (hd : s.shape.data = some d) :
    d.dir = if ccrFm s.ccr = 0b00 then .write else .read := by
  rw [State.shape, if_neg (by simp [hm]), shapeOf, Option.map_eq_some_iff] at hd
  obtain ⟨l, -, rfl⟩ := hd
  simp only [beq_iff_eq]

theorem Reading.dir (h : Reading s) {d : DataShape} (hd : s.shape.data = some d) : d.dir = .read := by
  rw [dir_of_shape h.unmapped hd, h]
  rfl

theorem WriteWord.dir (h : WriteWord s.ccr) {d : DataShape} (hd : s.shape.data = some d) : d.dir = .write := by
  rw [dir_of_shape h.unmapped hd, h.fm]
  rfl

theorem enterPhase_fifo (p : Phase) (s : State) : (enterPhase p s).fifo = s.fifo := by
  rcases enterPhase_cases p s with ⟨-, h⟩ | ⟨-, h⟩ <;> rw [h]
  obtain ⟨_, _, _, _, _, _, h, -⟩ := deviceEnd_eq (answerTo s s.shape) s.wireBytes { s with ph := .done, tcf := true }
  rw [h]

theorem enterPhase_ph (p : Phase) (s : State) : (enterPhase p s).ph = p := by
  rcases enterPhase_cases p s with ⟨hp, h⟩ | ⟨-, h⟩ <;> rw [h]
  obtain ⟨_, _, _, _, _, _, h, -⟩ := deviceEnd_eq (answerTo s s.shape) s.wireBytes { s with ph := .done, tcf := true }
  rw [h, hp]

theorem deviceLatch_fifo (ans : DevAnswer) (s : State) : (deviceLatch ans s).fifo = s.fifo := by
  rcases deviceLatch_cases ans s with ⟨-, h⟩ | ⟨-, h⟩ <;> rw [h]
  rfl

theorem byteSent_fifo (d : DataShape) (b : Byte) (rest : List Byte) (s : State) : (byteSent d b rest s).fifo = rest := by
  unfold byteSent
  rcases devWriteByte_cases (answerTo s s.shape) s.wireBytes.length b
    { s with fifo := rest, wireBytes := s.wireBytes ++ [b], io := (byteClocks d.lines .write b).getLastD s.io }
    with ⟨a, -, -, h⟩ | ⟨a, -, -, h⟩ | h <;> rw [h]
  rfl

theorem endFrame_fifo (s : State) : (endFrame s).fifo = s.fifo := by
  rw [endFrame, refreshBusy_eq]
  rfl

/-- A step of the Data phase of an indirect frame, by its direction: a byte goes out of the FIFO, or into it. -/
theorem wireData_fifo (d : DataShape) (s : State) :
    (wireData d s).fifo = s.fifo ∨ (d.dir = .write ∧ ∃ b, s.fifo = b :: (wireData d s).fifo)
      ∨ (d.dir = .read ∧ ∃ b, (wireData d s).fifo = s.fifo ++ [b]) := by
  rcases wireData_cases d s with h | ⟨b, rest, hd, hs, h⟩ | ⟨b, hd, -, h⟩
  · exact .inl (by rw [h])
  · have hfifo : (wireData d s).fifo = rest := by
      rw [h]
      split
      · exact byteSent_fifo d b rest s
      · rw [enterPhase_fifo, byteSent_fifo]
    exact .inr (.inl ⟨hd, b, hfifo ▸ hs⟩)
  · have hfifo : (wireData d s).fifo = s.fifo ++ [b] := by
      rw [h]
      split
      · rfl
      · rw [enterPhase_fifo]
        rfl
    exact .inr (.inr ⟨hd, b, hfifo⟩)

/-- Outside the Data phase of an indirect frame the engine leaves the FIFO as it is. -/
theorem wireStep_fifo (ha : NoAbort s) (hm : ccrMapped s.ccr = false) :
    (wireStep s).fifo = s.fifo ∨ ∃ d, s.shape.data = some d ∧ wireStep s = wireData d s := by
  cases hr : s.par.responsive with
  | false => exact .inl (by rw [wireStep_still s ha (.inl hr)])
  | true =>
    rw [wireStep_eq ha hr]
    cases s.ph with
    | idle => exact .inl rfl
    | instr => exact .inl ((enterPhase_fifo _ _).trans (deviceLatch_fifo _ _))
    | addr | alt | dummy => exact .inl (enterPhase_fifo _ _)
    | done => exact .inl (endFrame_fifo s)
    | data =>
      change (dataStep s.shape.data s).fifo = _ ∨ ∃ d, _ ∧ dataStep s.shape.data s = _
      cases s.shape.data with
      | none => exact .inl (enterPhase_fifo _ _)
      | some d => exact .inr ⟨d, rfl, if_neg (by simp [hm])⟩

theorem Reading.fifo_prefix (h : Reading s) (ha : NoAbort s) : s.fifo <+: (wireStep s).fifo := by
  rcases wireStep_fifo ha h.unmapped with he | ⟨d, hd, he⟩ <;> rw [he]
  rcases wireData_fifo d s with hf | ⟨hw, -⟩ | ⟨-, b, hf⟩
  · rw [hf]
  · exact absurd ((h.dir hd).symm.trans hw) nofun
  · exact hf ▸ List.prefix_append _ _

theorem WriteWord.fifo_suffix (h : WriteWord s.ccr) (ha : NoAbort s) : (wireStep s).fifo <:+ s.fifo := by
  rcases wireStep_fifo ha h.unmapped with he | ⟨d, hd, he⟩ <;> rw [he]
  rcases wireData_fifo d s with hf | ⟨-, b, hf⟩ | ⟨hr, -⟩
  · rw [hf]
  · exact hf ▸ List.suffix_cons b _
  · exact absurd ((h.dir hd).symm.trans hr) nofun

/-- The wire falls idle only from the last phase of an indirect frame. -/
theorem wireStep_running (ha : NoAbort s) (hm : ccrMapped s.ccr = false) (hi : s.ph ≠ .idle) (hd : s.ph ≠ .done) :
    (wireStep s).ph ≠ .idle := by
  have hnext {p : Phase} (hp : s.ph = p) (u : State) : (enterPhase (nextPhase s.shape p) u).ph ≠ .idle := by
    rw [enterPhase_ph]
    exact nextPhase_ne_idle _ (hp ▸ hi) (hp ▸ hd)
  cases hr : s.par.responsive with
  | false => rwa [wireStep_still s ha (.inl hr)]
  | true =>
    rw [wireStep_eq ha hr]
    cases hp : s.ph with
    | idle => exact absurd hp hi
    | instr | addr | alt | dummy => exact hnext hp _
    | done => exact absurd hp hd
    | data =>
      change (dataStep s.shape.data s).ph ≠ _
      cases s.shape.data with
      | none => exact (enterPhase_ph _ _).symm ▸ nofun
      | some d =>
        change (if ccrMapped s.ccr then wireMapped d s else wireData d s).ph ≠ _
        rw [if_neg (by simp [hm])]
        rcases wireData_cases d s with h | ⟨b, rest, -, -, h⟩ | ⟨b, -, -, h⟩ <;> rw [h]
        · exact hi
        · split
          · exact (devWriteByte_ph _ _ _ _).symm ▸ hi
          · exact (enterPhase_ph _ _).symm ▸ nofun
        · split
          · exact hi
          · exact (enterPhase_ph _ _).symm ▸ nofun

/-! ### Operations that the other agents do not disturb -/

/-- An operation that commutes with the steps of the wire engine ahead of the run alone. -/
theorem Trails.map {U : State → State} (h : Trails s t) (hhush : ∀ u, halted u = false → hush.on (U u) = U (hush.on u))
    (hsched : (U t).sched = t.sched) (hlive : Live (U s)) (hclosed : windowClosed (U s) = true)
    (hU : ∀ k, ∃ j, U (wireStep^[k] s) = wireStep^[j] (U s)) : Trails (U s) (U t) := by
  obtain ⟨k, h⟩ := h
  obtain ⟨j, hj⟩ := hU k
  refine ⟨j, hlive, hclosed, fun slot hs => h.harmless slot (hsched ▸ hs), ?_⟩
  rw [hhush t h.running, h.hush_eq, ← hhush _ (live_iterate h.live k).alone.running, hj, hush_iterate j hlive.abort]

/-- An update of what no step of the wire engine reads or writes. -/
theorem Trails.touch (f : Touch) (h : Trails s t) (hfifo : f.fifo = id) (htrace : f.trace = id) (hsched : f.sched = id) :
    Trails (f.on s) (f.on t) := by
  have hlive := h.live
  have hframe : f.Framewise := fun es x => by rw [htrace]; rfl
  refine h.map (fun u _ => ?_) (congrFun hsched _)
    ⟨hlive.responsive, hlive.abort, (congrFun hsched _).trans hlive.alone.sched, hlive.alone.running⟩ h.closed
    fun k => ⟨k, ?_⟩
  · simp only [Touch.on, hush, htrace, hsched, id]
  · induction k generalizing s t with
    | zero => rfl
    | succ k ih =>
      rw [Function.iterate_succ_apply', Function.iterate_succ_apply', ← ih h hlive,
        Touch.wireStep_of_fifo hfifo hframe (live_iterate hlive k).abort]

theorem Trails.bufWrite (h : Trails s t) (q : Nat) (bs : List Byte) : Trails (Machine.bufWrite q bs s) (Machine.bufWrite q bs t) :=
  h.touch { buf := fun m => m.writeList q bs } rfl rfl rfl

theorem Trails.setOpWord (h : Trails s t) (v : Word) : Trails { s with opWord := v } { t with opWord := v } :=
  h.touch { opWord := fun _ => v } rfl rfl rfl

/-! ### Reads of `DR` -/

/-- `k` bytes have been popped from the FIFO. -/
def popped (k : Nat) (s : State) : State := refreshBusy { s with fifo := s.fifo.drop k }

theorem readDr_popped {k : Nat} (hk : k ≤ s.fifo.length) : readDr k s = (leWord (s.fifo.take k), popped k s) := by
  rcases readDr_cases k s with ⟨hlt, -⟩ | ⟨-, he⟩
  · omega
  · exact he

theorem popped_of_running (k : Nat) (h : s.ph ≠ .idle) : popped k s = { s with fifo := s.fifo.drop k } := by
  rw [popped, refreshBusy_eq, if_neg fun hc => h hc.2.1]

theorem popped_endFrame (k : Nat) (s : State) : popped k (endFrame s) = endFrame { s with fifo := s.fifo.drop k } := by
  simp only [popped, endFrame, refreshBusy_eq, emit]
  have hframe : currentFrame { s with fifo := s.fifo.drop k } false = currentFrame s false := rfl
  have hbusy : (if (if s.busy = .one ∧ s.fifo = [] then .zero else s.busy) = .one ∧ s.fifo.drop k = [] then .zero
      else if s.busy = .one ∧ s.fifo = [] then .zero else s.busy)
      = if s.busy = .one ∧ s.fifo.drop k = [] then BusyBit.zero else s.busy := by
    by_cases he : s.fifo = []
    · cases hb : s.busy <;> simp [he]
    · simp [he]
  simp only [true_and, hframe, hbusy]

/-- A read of `DR` and a step of the wire engine, in either order. -/
theorem popped_wireStep {k : Nat} (hr : Reading s) (ha : NoAbort s) (hk : k ≤ s.fifo.length) :
    wireStep s = s ∨ popped k (wireStep s) = wireStep (popped k s) := by
  by_cases hidle : s.ph = .idle
  · exact .inl (wireStep_still s ha (.inr hidle))
  cases hresp : s.par.responsive with
  | false => exact .inl (wireStep_still s ha (.inl hresp))
  | true =>
    rw [popped_of_running k hidle]
    by_cases hdone : s.ph = .done
    · refine .inr ?_
      have hstep (u : State) (ha : NoAbort u) (hresp : u.par.responsive = true) (hp : u.ph = .done) : wireStep u = endFrame u := by
        rw [wireStep_eq ha hresp, hp]
        rfl
      rw [hstep s ha hresp hdone, popped_endFrame]
      exact (hstep { s with fifo := s.fifo.drop k } ha hresp hdone).symm
    · rw [popped_of_running k (wireStep_running ha hr.unmapped hidle hdone)]
      by_cases hfull : s.ph = .data ∧ s.shape.data.isSome = true ∧ s.par.fifoDepth ≤ s.fifo.length
      · obtain ⟨hdata, hsome, hfull⟩ := hfull
        obtain ⟨d, hd⟩ := Option.isSome_iff_exists.1 hsome
        refine .inl ?_
        rw [wireStep_eq ha hresp, hdata]
        change dataStep s.shape.data s = s
        rw [hd, dataStep, if_neg (by simp [hr.unmapped]), wireData, hr.dir hd]
        exact if_pos hfull
      · refine .inr (Eq.symm (Touch.wireStep (f := { fifo := List.drop k }) ha (fun _ _ => rfl) (fun hp _ d hd => ?_) fun h => ?_))
        · have hroom : s.fifo.length < s.par.fifoDepth := Nat.lt_of_not_le fun hle => hfull ⟨hp, by simp [hd], hle⟩
          exact Touch.wireData_read _ s (hr.dir hd) hroom (by simp) fun b => List.drop_append_of_le_length hk
        · exact absurd h (by simp [hdone, hr.unmapped])

theorem Reading.take_iterate (hr : Reading s) (hl : Live s) {k : Nat} (hk : k ≤ s.fifo.length) (j : Nat) :
    k ≤ (wireStep^[j] s).fifo.length ∧ (wireStep^[j] s).fifo.take k = s.fifo.take k := by
  have hprefix : s.fifo <+: (wireStep^[j] s).fifo := by
    induction j generalizing s with
    | zero => exact List.prefix_rfl
    | succ j ih =>
      have hstep := hr.fifo_prefix hl.abort
      exact hstep.trans (ih (hr.kept (kept_wireStep s)) hl.wireStep (Nat.le_trans hk hstep.length_le))
  obtain ⟨rest, hrest⟩ := hprefix
  rw [← hrest, List.length_append]
  exact ⟨by omega, List.take_append_of_le_length hk⟩

theorem Live.readDr (hl : Live s) {k : Nat} (hk : k ≤ s.fifo.length) : Live (readDr k s).2 where
  responsive := (congrArg (·.par.responsive) (kept_readDr k s hk).still :).trans hl.responsive
  abort := (kept_readDr k s hk).abort hl.abort
  alone := ⟨(congrArg State.sched (kept_readDr k s hk).still :).trans hl.alone.sched, (halted_readDr k s hk).trans hl.alone.running⟩

/-- A read of `DR` takes the same bytes however far the wire engine is ahead. -/
theorem Trails.readDr (h : Trails s t) (hr : Reading s) {k : Nat} (hk : k ≤ s.fifo.length) :
    (readDr k t).1 = (readDr k s).1 ∧ Trails (readDr k s).2 (readDr k t).2 := by
  have hlive := h.live
  have hahead : k ≤ t.fifo.length ∧ t.fifo.take k = s.fifo.take k := by
    obtain ⟨j, h⟩ := h
    have hfifo : t.fifo = (wireStep^[j] s).fifo := (congrArg State.fifo h.hush_eq :)
    exact hfifo ▸ hr.take_iterate hlive hk j
  obtain ⟨hk', htake⟩ := hahead
  have hlive' := hlive.readDr hk
  have hclosed : windowClosed (Machine.readDr k s).2 = true := (kept_readDr k s hk).windowClosed.trans h.closed
  rw [readDr_popped hk] at hlive' hclosed ⊢
  rw [readDr_popped hk', htake]
  refine ⟨rfl, h.map (fun u _ => ?_) ?_ hlive' hclosed fun j => ?_⟩
  · simp only [popped, refreshBusy_eq]
    rfl
  · rw [popped, refreshBusy_eq]
  · refine iterate_commute (P := fun u => Live u ∧ Reading u ∧ k ≤ u.fifo.length) (fun u hu => ?_) (fun u hu => ?_) j ⟨hlive, hr, hk⟩
    · obtain ⟨hul, hur, huk⟩ := hu
      exact ⟨hul.wireStep, hur.kept (kept_wireStep u), Nat.le_trans huk (hur.fifo_prefix hul.abort).length_le⟩
    · obtain ⟨hul, hur, huk⟩ := hu
      exact popped_wireStep hur hul.abort huk

/-! ### Writes of `DR` -/

/-- A write of `DR` and a step of the wire engine, in either order, while the frame waits for bytes. -/
theorem pushed_wireStep {n : Nat} (h : Feeding n s) (ha : NoAbort s) (bs : List Byte) :
    wireStep s = s ∨ Touch.on { fifo := (· ++ bs) } (wireStep s) = wireStep (Touch.on { fifo := (· ++ bs) } s) := by
  cases hresp : s.par.responsive with
  | false => exact .inl (wireStep_still s ha (.inl hresp))
  | true =>
    obtain ⟨l, hdata⟩ := h.word.data
    by_cases hempty : s.ph = .data ∧ s.fifo = []
    · obtain ⟨hp, hempty⟩ := hempty
      refine .inl ?_
      rw [wireStep_eq ha hresp, hp]
      change dataStep s.shape.data s = s
      rw [hdata, dataStep, if_neg (by simp [h.word.unmapped]), wireData, hempty]
    · refine .inr (Eq.symm (Touch.wireStep ha (fun _ _ => rfl) (fun hp _ d hd => ?_) fun hend => ?_))
      · obtain ⟨b, rest, hb⟩ := List.exists_cons_of_ne_nil fun hnil => hempty ⟨hp, hnil⟩
        exact Touch.wireData_write _ s (h.word.dir hd) hb rfl
      · exact absurd hend (by simp [h.phase.2, h.word.unmapped])

theorem Feeding.push {n : Nat} {bs : List Byte} (h : Feeding (n + bs.length) s) : Feeding n { s with fifo := s.fifo ++ bs } :=
  { h with
    count := by
      have hcount := h.count
      simp only [List.length_append]
      omega }

/-- While the frame waits for bytes the FIFO only grows emptier. -/
theorem feeding_iterate {n : Nat} (h : Feeding n s) (hn : 0 < n) (hl : Live s) (j : Nat) :
    Feeding n (wireStep^[j] s) ∧ (wireStep^[j] s).fifo.length ≤ s.fifo.length := by
  induction j generalizing s with
  | zero => exact ⟨h, Nat.le_refl _⟩
  | succ j ih =>
    obtain ⟨hf, hle⟩ := ih (h.wireStep hn hl.abort) hl.wireStep
    exact ⟨hf, Nat.le_trans hle (h.word.fifo_suffix hl.abort).length_le⟩

/-- A write of `DR` while the frame waits for the bytes, however far the wire engine is ahead. -/
theorem Trails.writeDr (h : Trails s t) {n m : Nat} (hm : m ≠ 0) (hm' : m ≤ 4) (hf : Feeding (n + m) s)
    (hroom : m ≤ s.par.fifoDepth - s.fifo.length) (v : Word) :
    Trails (Machine.writeDr m v s) (Machine.writeDr m v t) ∧ Feeding n (Machine.writeDr m v s) := by
  have hlive := h.live
  have hroom' : m ≤ t.par.fifoDepth - t.fifo.length := by
    obtain ⟨j, h⟩ := h
    have hfifo : t.fifo = (wireStep^[j] s).fifo := (congrArg State.fifo h.hush_eq :)
    have hle := (feeding_iterate hf (by omega) hlive j).2
    rw [hfifo, h.par]
    omega
  have hwrite {u : State} (hu : m ≤ u.par.fifoDepth - u.fifo.length) :
      Machine.writeDr m v u = Touch.on { fifo := (· ++ (leBytes v).take m) } u := by
    rcases writeDr_cases m v u with ⟨hfull, -⟩ | ⟨-, he⟩
    · omega
    · exact he
  have hcount : ((leBytes v).take m).length = m := by simp [leBytes, hm']
  rw [hwrite hroom, hwrite hroom']
  refine ⟨h.map (fun _ _ => rfl) rfl ⟨hlive.responsive, hlive.abort, hlive.alone.sched, hlive.alone.running⟩ h.closed fun j => ?_, ?_⟩
  · refine iterate_commute (P := fun u => Feeding (n + m) u ∧ NoAbort u) (fun u hu => ?_) (fun u hu => ?_) j ⟨hf, hlive.abort⟩
    · exact ⟨hu.1.wireStep (by omega) hu.2, (kept_wireStep u).abort hu.2⟩
    · exact pushed_wireStep hu.1 hu.2 _
  · exact Feeding.push (by rwa [hcount])

end Sys2Proof.Machine
end

section
/-! PROOF. O17, the micro-steps of the primitives under harmless turns behind a closed window: each leads the run and the run alone on
together, as long as the run alone is not halted. -/

namespace Sys2Proof.Machine

variable {P Q R : State → Prop} {s t : State}

/-- From a point at which the run alone meets `P`, a micro-step that does not halt it takes both runs to a point at which it meets `Q`. -/
def Escorts (P Q : State → Prop) (m : Micro) : Prop :=
  ∀ s t, Trails s t → P s → halted (m s) = false → Trails (m s) (m t) ∧ Q (m s)

theorem escorts_nil (h : ∀ s, P s → Q s) : Escorts P Q (runMicros []) := fun s _ ht hs _ => ⟨ht, h s hs⟩

theorem escorts_cons {m : Micro} {ms : List Micro} (hm : Escorts P Q m) (hms : Escorts Q R (runMicros ms)) :
    Escorts P R (runMicros (m :: ms)) := by
  intro s t ht hs hn
  have halone := ht.live.alone
  rw [runMicros_cons m ms s halone.sched halone.running] at hn ⊢
  have hfirst : halted (m s) = false := by
    by_contra hh
    rw [if_pos (Bool.of_not_eq_false hh)] at hn
    exact hh hn
  rw [hfirst, if_neg Bool.false_ne_true] at hn ⊢
  obtain ⟨ht', hq⟩ := hm s (interleave t) ht.interleave hs hfirst
  have hrun : runMicros (m :: ms) t = runMicros ms (m (interleave t)) := by
    simp only [runMicros, ht.interleave.running, ht'.running, Bool.false_eq_true, if_false]
  rw [hrun]
  exact hms _ _ ht' hq hn

/-! ### Micro-steps on an idle wire -/

/-- What the micro-steps before a frame, and the report after one, do not write. -/
def State.anchored (s : State) : State :=
  { s with
    tcf := false, busy := .zero, dlr := 0, ccr := 0, ar := 0, abr := 0, ph := .idle, wireBytes := [], nCS := true, trace := []
    fault := none, draws := 0, diagBytes := 0, diagValid := false }

/-- A micro-step that reads neither the schedule nor the CPU's accesses and writes nothing of what stands around a frame. -/
structure Setup (m : Micro) : Prop where
  hush : ∀ s, halted s = false → hush.on (m s) = m (hush.on s)
  anchor : ∀ s, halted s = false → (m s).anchored = s.anchored

theorem Trails.setup {m : Micro} (hm : Setup m) (h : Trails s t) (hidle : s.ph = .idle) : hush.on (m t) = hush.on (m s) := by
  rw [hm.hush t h.running, h.hush_eq hidle, hm.hush s h.live.alone.running]

theorem escorts_setup {m : Micro} (hm : Setup m) (hidle : ∀ s, P s → s.ph = .idle)
    (hQ : ∀ s, halted s = false → P s → halted (m s) = false → Q (m s)) : Escorts P Q m := by
  intro s t h hs hn
  have hlive := h.live
  have hanchor := hm.anchor s hlive.alone.running
  have hsame := h.setup hm (hidle s hs)
  obtain ⟨k, hk⟩ := h
  have hlive' : Live (m s) :=
    { responsive := (congrArg (·.par.responsive) hanchor :).trans hlive.responsive
      abort := (congrArg (fun u => crAbort u.cr) hanchor :).trans hlive.abort
      alone := ⟨(congrArg State.sched hanchor :).trans hlive.alone.sched, hn⟩ }
  have hsched : (m t).sched = t.sched := (congrArg State.sched (hm.anchor t hk.running) :)
  exact ⟨⟨0, hlive', (congrArg windowClosed hanchor :).trans hk.closed, fun slot hs => hk.harmless slot (hsched ▸ hs), hsame⟩,
    hQ s hlive.alone.running hs hn⟩

/-- The wire is idle and the FIFO empty, and `K` holds. -/
structure Grounded (K : State → Prop) (s : State) : Prop where
  idle : s.ph = .idle
  empty : s.fifo = []
  known : K s

theorem setup_commonPre : Setup commonPre where
  hush s _ := by
    simp only [commonPre, readBusy_eq, apply_ite hush.on]
    rfl
  anchor s _ := by
    simp only [commonPre, readBusy_eq]
    repeat' split
    all_goals rfl

theorem setup_require (ok : Bool) (r : UnsupportedReason) : Setup (require ok r) where
  hush s _ := by cases ok <;> rfl
  anchor s _ := by cases ok <;> rfl

theorem setup_clearTcf : Setup clearTcf := ⟨fun _ _ => rfl, fun _ _ => rfl⟩

theorem setup_writeDlr (v : Word) : Setup (writeDlr v) := ⟨fun _ _ => rfl, fun _ _ => rfl⟩

theorem setup_writeLength (len : Word) : Setup (writeLength len) where
  hush s _ := by
    simp only [writeLength, apply_ite hush.on]
    rfl
  anchor s _ := by
    unfold writeLength
    split <;> rfl

theorem setup_writeAlt (on : Bool) : Setup (writeAlt on) := by
  constructor <;> cases on <;> exact fun _ _ => rfl

theorem setup_writeTmw (v : Word) : Setup (writeTmw v) where
  hush s hs := by
    cases hb : busyHeld s with
    | true =>
      rw [writeTmw_busy v s hb, writeTmw_busy v (hush.on s) hb]
      rfl
    | false =>
      have hword (u : State) : hush.on (modeWordWritten v u) = modeWordWritten v (hush.on u) := by
        have htrace : ownEvents (u.trace ++ [.tmwWrite v]) = ownEvents u.trace ++ [.tmwWrite v] := ownEvents_append _ _
        simp only [modeWordWritten, Touch.on, hush, htrace]
      have hf := fault_of_not_halted hs
      rw [writeTmw_eq_modeWordWritten v s hb hf, writeTmw_eq_modeWordWritten v (hush.on s) hb hf, hword]
  anchor s hs := by
    cases hb : busyHeld s with
    | true => rw [writeTmw_busy v s hb]; rfl
    | false => rw [writeTmw_eq_modeWordWritten v s hb (fault_of_not_halted hs)]; rfl

theorem setup_writeAr (a : Word) : Setup (writeAr a) where
  hush s _ := by
    simp only [writeAr, apply_ite hush.on]
    rfl
  anchor s _ := by
    rcases writeAr_cases a s with ⟨h, -⟩ | h <;> rw [h] <;> rfl

theorem setup_report (id : List Byte) : Setup (report id) where
  hush s _ := by
    have htrace : ownEvents (s.trace ++ [.diag id]) = ownEvents s.trace ++ [.diag id] := ownEvents_append _ _
    rw [report_eq, report_eq]
    split
    · simp only [Touch.on, emit, hush, htrace]
    · rfl
  anchor s _ := by
    rw [report_eq]
    split <;> rfl

/-! ### Up to the start of a frame -/

section Starts

variable {K : State → Prop}

theorem escorts_commonPre : Escorts (Grounded fun _ => True) (Grounded fun _ => True) commonPre := by
  refine escorts_setup setup_commonPre (fun _ h => h.idle) fun s _ hs hn => ?_
  rcases commonPre_cases s with hh | ⟨-, he⟩
  · exact absurd (hn.symm.trans hh) nofun
  · rw [he]
    exact ⟨hs.idle, hs.empty, trivial⟩

theorem escorts_require (ok : Bool) (r : UnsupportedReason) : Escorts (Grounded K) (Grounded K) (require ok r) := by
  refine escorts_setup (setup_require ok r) (fun _ h => h.idle) fun s _ hs hn => ?_
  cases ok with
  | true => exact hs
  | false => cases hn

theorem escorts_clearTcf : Escorts (Grounded fun _ => True) (Grounded fun _ => True) clearTcf :=
  escorts_setup setup_clearTcf (fun _ h => h.idle) fun _ _ hs _ => ⟨hs.idle, hs.empty, trivial⟩

theorem escorts_writeDlr (v : Word) : Escorts (Grounded K) (Grounded fun s => s.dlr = v) (writeDlr v) :=
  escorts_setup (setup_writeDlr v) (fun _ h => h.idle) fun _ _ hs _ => ⟨hs.idle, hs.empty, rfl⟩

theorem escorts_writeLength (len : Word) : Escorts (Grounded K) (Grounded fun s => len ≠ 0 → s.dlr = len - 1) (writeLength len) := by
  refine escorts_setup (setup_writeLength len) (fun _ h => h.idle) fun s _ hs _ => ?_
  by_cases hlen : len = 0
  · rw [writeLength, if_pos (by simpa using hlen)]
    exact ⟨hs.idle, hs.empty, fun hne => absurd hlen hne⟩
  · rw [writeLength, if_neg (by simpa using hlen)]
    exact ⟨hs.idle, hs.empty, fun _ => rfl⟩

theorem escorts_writeAlt (on : Bool) (hK : ∀ s v, K s → K { s with abr := v }) : Escorts (Grounded K) (Grounded K) (writeAlt on) := by
  refine escorts_setup (setup_writeAlt on) (fun _ h => h.idle) fun s _ hs _ => ?_
  rw [writeAlt_eq]
  exact ⟨hs.idle, hs.empty, hK s _ hs.known⟩

/-- A mode word that has been written without an outcome. -/
theorem writeTmw_of_running {v : Word} (hs : halted s = false) (hn : halted (writeTmw v s) = false) :
    writeTmw v s = modeWordWritten v s := by
  cases hb : busyHeld s with
  | true =>
    rw [writeTmw_busy v s hb] at hn
    cases hn
  | false => exact writeTmw_eq_modeWordWritten v s hb (fault_of_not_halted hs)

/-- A word with an Addr phase starts no frame. -/
theorem escorts_writeTmw {v : Word} (hv : (ccrAl v == 0b00) = false) (D : Word → Prop) :
    Escorts (Grounded fun s => D s.dlr) (Grounded fun s => D s.dlr ∧ s.ccr = v) (writeTmw v) := by
  refine escorts_setup (setup_writeTmw v) (fun _ h => h.idle) fun s hh hs hn => ?_
  have hwait : (ccrIndirect v && ccrAl v == 0b00) = false := by rw [hv, Bool.and_false]
  rw [writeTmw_of_running hh hn, modeWordWritten]
  simp only [hwait, Bool.false_eq_true, if_false]
  exact ⟨hs.idle, hs.empty, hs.known, rfl⟩

/-- A word without an Addr phase starts the frame. -/
theorem escorts_writeTmw_start (v : Word) (hQ : ∀ s, Grounded K s → Q (modeWordWritten v s)) : Escorts (Grounded K) Q (writeTmw v) := by
  refine escorts_setup (setup_writeTmw v) (fun _ h => h.idle) fun s hh hs hn => ?_
  rw [writeTmw_of_running hh hn]
  exact hQ s hs

/-- The address starts the frame of a word that reads. -/
theorem escorts_writeAr_reading {v : Word} (hv : ccrFm v = 0b01) (a : Word) :
    Escorts (Grounded fun s => K s ∧ s.ccr = v) Reading (writeAr a) := by
  refine escorts_setup (setup_writeAr a) (fun _ h => h.idle) fun s _ hs _ => ?_
  have hword : ccrFm s.ccr = 0b01 := (congrArg ccrFm hs.known.2).trans hv
  rcases writeAr_cases a s with ⟨h, -⟩ | h <;> rw [h] <;> exact hword

/-- The address starts the frame of a word that writes `n` bytes; nothing is known for none. -/
theorem escorts_writeAr_feeding {v : Word} {n : Nat} (a : Word) (hv : n ≠ 0 → WriteWord v ∧ ccrAl v ≠ 0b00)
    (hK : ∀ s, K s → n ≠ 0 → s.dlr.toNat + 1 = n) :
    Escorts (Grounded fun s => K s ∧ s.ccr = v) (fun s => n ≠ 0 → Feeding n s) (writeAr a) := by
  refine escorts_setup (setup_writeAr a) (fun _ h => h.idle) fun s _ hs _ hn => ?_
  obtain ⟨hk, hccr⟩ := hs.known
  obtain ⟨hword, haddr⟩ := hccr ▸ hv hn
  have hstart : writeAr a s = startFrame { s with ar := a } := if_pos (by simpa [hword.indirect] using haddr)
  rw [hstart]
  exact { busy := rfl, phase := ⟨nofun, nofun⟩, word := hword, count := by simp [startFrame, hs.empty, hK s hk hn] }

end Starts

/-! ### Waits -/

theorem escorts_waitFor {cond : State → Bool} (w : Wait) (hhush : ∀ u, cond (hush.on u) = cond u)
    (hP : ∀ u, Live u → P u → P (wireStep u)) (hc : ∀ u, Live u → P u → cond u = true → cond (wireStep u) = true) :
    Escorts P P (waitFor cond w) := by
  intro s t h hs hn
  have hlive := h.live
  have hiter (j : Nat) : Live (wireStep^[j] s) ∧ P (wireStep^[j] s) :=
    iterate_keeps (P := fun u => Live u ∧ P u) (fun u hu => ⟨hu.1.wireStep, hP u hu.1 hu.2⟩) j ⟨hlive, hs⟩
  have hrises : Rises cond s := ⟨hhush, fun j => hc _ (hiter j).1 (hiter j).2⟩
  refine ⟨h.waitFor hrises hn, ?_⟩
  rw [waitFor_responsive cond w s hlive.responsive] at hn ⊢
  obtain ⟨j, -, he, -⟩ := waitLoop_first hlive hn
  exact he ▸ (hiter j).2

theorem enterPhase_tcf (p : Phase) (h : s.tcf = true) : (enterPhase p s).tcf = true := by
  rcases enterPhase_cases p s with ⟨-, he⟩ | ⟨-, he⟩ <;> rw [he]
  · obtain ⟨_, _, _, _, _, _, he, -⟩ := deviceEnd_eq (answerTo s s.shape) s.wireBytes { s with ph := .done, tcf := true }
    rw [he]
  · exact h

theorem byteSent_tcf (d : DataShape) (b : Byte) (rest : List Byte) (s : State) : (byteSent d b rest s).tcf = s.tcf := by
  unfold byteSent
  rcases devWriteByte_cases (answerTo s s.shape) s.wireBytes.length b
    { s with fifo := rest, wireBytes := s.wireBytes ++ [b], io := (byteClocks d.lines .write b).getLastD s.io }
    with ⟨a, -, -, h⟩ | ⟨a, -, -, h⟩ | h <;> rw [h]
  rfl

theorem endFrame_tcf (s : State) : (endFrame s).tcf = s.tcf := by
  rw [endFrame, refreshBusy_eq]
  rfl

/-- `SR.TCF` does not fall by itself (10_state.md R43). -/
theorem wireStep_tcf (ha : NoAbort s) (h : s.tcf = true) : (wireStep s).tcf = true := by
  cases hr : s.par.responsive with
  | false => rwa [wireStep_still s ha (.inl hr)]
  | true =>
    rw [wireStep_eq ha hr]
    cases s.ph with
    | idle => exact h
    | instr =>
      refine enterPhase_tcf _ ?_
      rcases deviceLatch_cases (answerTo s s.shape) { s with io := phaseIo s } with ⟨-, he⟩ | ⟨-, he⟩ <;> rw [he] <;> exact h
    | addr | alt | dummy => exact enterPhase_tcf _ h
    | done => exact (endFrame_tcf s).trans h
    | data =>
      change (dataStep s.shape.data s).tcf = _
      cases s.shape.data with
      | none => exact enterPhase_tcf _ h
      | some d =>
        change (if ccrMapped s.ccr then wireMapped d s else wireData d s).tcf = _
        split
        · simp only [wireMapped]
          split
          · exact h
          · exact (endFrame_tcf _).trans h
        · rcases wireData_cases d s with he | ⟨b, rest, -, -, he⟩ | ⟨b, -, -, he⟩ <;> rw [he]
          · exact h
          · split
            · exact (byteSent_tcf d b rest s).trans h
            · exact enterPhase_tcf _ ((byteSent_tcf d b rest s).trans h)
          · split
            · exact h
            · exact enterPhase_tcf _ h

theorem escorts_transferComplete (hP : ∀ u, Live u → P u → P (wireStep u)) :
    Escorts P P (waitFor transferComplete .transferComplete) :=
  escorts_waitFor _ (fun _ => rfl) hP fun _ hl _ => wireStep_tcf hl.abort

/-- The last wait of a primitive: both runs end with the wire idle. -/
theorem escorts_settle : Escorts P (fun s => s.ph = .idle) settle := by
  intro s t h _ hn
  have hstill (u : State) (hl : Live u) (_ : True) (hi : wireIdle u = true) : wireIdle (wireStep u) = true := by
    rwa [wireStep_still u hl.abort (.inr (eq_of_beq hi))]
  obtain ⟨h', -⟩ := escorts_waitFor (P := fun _ => True) .transferComplete (fun _ => rfl) (fun _ _ _ => trivial) hstill s t h trivial hn
  exact ⟨h', eq_of_beq (waitFor_cond wireIdle .transferComplete s hn)⟩

/-! ### The reads of `DR` -/

/-- A read of `DR` behind its wait. -/
theorem Trails.fetch (h : Trails s t) (hr : Reading s) {m : Nat} {w : Wait} (hn : halted (Machine.waitFor (fifoHolds m) w s) = false) :
    (Machine.readDr m (Machine.waitFor (fifoHolds m) w t)).1 = (Machine.readDr m (Machine.waitFor (fifoHolds m) w s)).1
      ∧ Trails (Machine.readDr m (Machine.waitFor (fifoHolds m) w s)).2 (Machine.readDr m (Machine.waitFor (fifoHolds m) w t)).2
      ∧ Reading (Machine.readDr m (Machine.waitFor (fifoHolds m) w s)).2
      ∧ halted (Machine.waitFor (fifoHolds m) w t) = false := by
  have hgrows (u : State) (hl : Live u) (hu : Reading u) (hm : fifoHolds m u = true) : fifoHolds m (wireStep u) = true :=
    decide_eq_true (Nat.le_trans (of_decide_eq_true hm) (hu.fifo_prefix hl.abort).length_le)
  obtain ⟨h', hr'⟩ := escorts_waitFor w (fun _ => rfl) (fun u _ hu => hu.kept (kept_wireStep u)) hgrows s t h hr hn
  have hlevel : m ≤ (Machine.waitFor (fifoHolds m) w s).fifo.length := of_decide_eq_true (waitFor_cond _ w s hn)
  obtain ⟨hval, h''⟩ := h'.readDr hr' hlevel
  exact ⟨hval, h'', hr'.kept (kept_readDr m _ hlevel), h'.running⟩

theorem not_halted_of_ite {c : Bool} {x y : State} (hx : c = true → halted x = true) (h : halted (if c = true then x else y) = false) :
    c = false := by
  cases c with
  | false => rfl
  | true =>
    rw [if_pos rfl, hx rfl] at h
    cases h

theorem takeBytes_succ {n : Nat} (h : halted (waitFor (fifoHolds 1) .fifoByteReady s) = false) :
    takeBytes (n + 1) s = ((readDr 1 (waitFor (fifoHolds 1) .fifoByteReady s)).1.extractLsb' 0 8
        :: (takeBytes n (readDr 1 (waitFor (fifoHolds 1) .fifoByteReady s)).2).1,
      (takeBytes n (readDr 1 (waitFor (fifoHolds 1) .fifoByteReady s)).2).2) :=
  if_neg (ne_true_of_eq_false h)

theorem waited_of_takeBytes {n : Nat} (h : halted (takeBytes (n + 1) s).2 = false) :
    halted (waitFor (fifoHolds 1) .fifoByteReady s) = false := by
  by_contra hh
  have he : takeBytes (n + 1) s = ([], waitFor (fifoHolds 1) .fifoByteReady s) := if_pos (Bool.of_not_eq_false hh)
  rw [he] at h
  exact hh h

theorem Trails.takeBytes {n : Nat} (h : Trails s t) (hr : Reading s) (hn : halted (takeBytes n s).2 = false) :
    (Machine.takeBytes n t).1 = (Machine.takeBytes n s).1 ∧ Trails (Machine.takeBytes n s).2 (Machine.takeBytes n t).2 := by
  induction n generalizing s t with
  | zero => exact ⟨rfl, h⟩
  | succ n ih =>
    have hwait := waited_of_takeBytes hn
    obtain ⟨hval, h', hr', hwait'⟩ := h.fetch hr hwait
    rw [takeBytes_succ hwait] at hn ⊢
    obtain ⟨hvals, h''⟩ := ih h' hr' hn
    rw [takeBytes_succ hwait', hval, hvals]
    exact ⟨rfl, h''⟩

theorem escorts_assembleWord (n : Nat) : Escorts Reading (fun _ => True) (assembleWord n) := by
  intro s t h hr hn
  have htake : halted (takeBytes n s).2 = false := not_halted_of_ite id hn
  obtain ⟨hvals, h'⟩ := h.takeBytes hr htake
  unfold assembleWord
  simp only [htake, h'.running, hvals, Bool.false_eq_true, if_false]
  exact ⟨h'.setOpWord _, trivial⟩

theorem escorts_readIdentification : Escorts Reading (fun s => s.ph = .idle) readIdentification := by
  intro s t h hr hn
  have htake : halted (takeBytes 8 s).2 = false := not_halted_of_ite id hn
  obtain ⟨hvals, h'⟩ := h.takeBytes hr htake
  unfold readIdentification at hn ⊢
  simp only [htake, h'.running, hvals, Bool.false_eq_true, if_false] at hn ⊢
  have hsettle : halted (settle (takeBytes 8 s).2) = false := not_halted_of_ite id hn
  obtain ⟨h'', hidle⟩ := escorts_settle (P := fun _ => True) _ _ h' trivial hsettle
  simp only [hsettle, h''.running, Bool.false_eq_true, if_false] at hn ⊢
  refine escorts_setup (setup_report _) (P := fun s => s.ph = .idle) (Q := fun s => s.ph = .idle) (fun _ => id)
    (fun u _ hu _ => ?_) _ _ h'' hidle hn
  rw [report_eq]
  split
  · exact hu
  · exact hu

theorem Reading.bufWrite (h : Reading s) (q : Nat) (bs : List Byte) : Reading (bufWrite q bs s) := h

theorem escorts_drainWords (k q : Nat) : Escorts Reading Reading (drainWords k q) := by
  induction k generalizing q with
  | zero => exact fun _ _ h hr _ => ⟨h, hr⟩
  | succ k ih =>
    intro s t h hr hn
    have hwait : halted (waitFor (fifoHolds 4) .fifoWordReady s) = false := not_halted_of_ite id hn
    obtain ⟨hval, h', hr', hwait'⟩ := h.fetch (m := 4) hr hwait
    have hstep (u : State) (hu : halted (waitFor (fifoHolds 4) .fifoWordReady u) = false) : drainWords (k + 1) q u
        = drainWords k (q + 4) (bufWrite q (leBytes (readDr 4 (waitFor (fifoHolds 4) .fifoWordReady u)).1)
            (readDr 4 (waitFor (fifoHolds 4) .fifoWordReady u)).2) := if_neg (ne_true_of_eq_false hu)
    rw [hstep s hwait] at hn ⊢
    rw [hstep t hwait', hval]
    exact ih _ _ _ (h'.bufWrite _ _) (hr'.bufWrite _ _) hn

theorem escorts_drainBytes (k q : Nat) : Escorts Reading Reading (drainBytes k q) := by
  induction k generalizing q with
  | zero => exact fun _ _ h hr _ => ⟨h, hr⟩
  | succ k ih =>
    intro s t h hr hn
    have hwait : halted (waitFor (fifoHolds 1) .fifoByteReady s) = false := not_halted_of_ite id hn
    obtain ⟨hval, h', hr', hwait'⟩ := h.fetch (m := 1) hr hwait
    have hstep (u : State) (hu : halted (waitFor (fifoHolds 1) .fifoByteReady u) = false) : drainBytes (k + 1) q u
        = drainBytes k (q + 1) (bufWrite q [(readDr 1 (waitFor (fifoHolds 1) .fifoByteReady u)).1.extractLsb' 0 8]
            (readDr 1 (waitFor (fifoHolds 1) .fifoByteReady u)).2) := if_neg (ne_true_of_eq_false hu)
    rw [hstep s hwait] at hn ⊢
    rw [hstep t hwait', hval]
    exact ih _ _ _ (h'.bufWrite _ _) (hr'.bufWrite _ _) hn

theorem escorts_drain (n p : Nat) : Escorts Reading Reading (drain n p) := by
  intro s t h hr hn
  unfold drain at hn ⊢
  split
  next hp =>
    rw [if_pos hp] at hn
    have hwords : halted (drainWords (n / 4) p s) = false := not_halted_of_ite id hn
    obtain ⟨h', hr'⟩ := escorts_drainWords (n / 4) p s t h hr hwords
    simp only [hwords, h'.running, Bool.false_eq_true, if_false] at hn ⊢
    exact escorts_drainBytes _ _ _ _ h' hr' hn
  next hp =>
    rw [if_neg hp] at hn
    exact escorts_drainBytes n p s t h hr hn

/-! ### The writes of `DR` -/

/-- WRA's write loop while the frame waits for its bytes. -/
theorem escorts_pushBytes (n q : Nat) : Escorts (fun s => n ≠ 0 → Feeding n s) (fun _ => True) (pushBytes n q) := by
  induction n generalizing q with
  | zero => exact fun _ _ h _ _ => ⟨h, trivial⟩
  | succ n ih =>
    intro s t h hs hn
    have hwait : halted (waitFor fifoNotFull .fifoNotFull s) = false := not_halted_of_ite id hn
    have hshrinks (u : State) (hl : Live u) (hu : Feeding (n + 1) u) (hf : fifoNotFull u = true) : fifoNotFull (wireStep u) = true := by
      have hpar : (wireStep u).par = u.par := (congrArg State.par (kept_wireStep u).still :)
      have hroom : u.fifo.length < u.par.fifoDepth := of_decide_eq_true hf
      have hle := (hu.word.fifo_suffix hl.abort).length_le
      refine decide_eq_true ?_
      rw [hpar]
      exact Nat.lt_of_le_of_lt hle hroom
    obtain ⟨h', hf⟩ := escorts_waitFor .fifoNotFull (fun _ => rfl) (fun u hl hu => hu.wireStep (Nat.succ_pos n) hl.abort) hshrinks s t h
      (hs (Nat.succ_ne_zero n)) hwait
    have hroom := fifo_of_notFull hwait
    have hbyte : bufByte (waitFor fifoNotFull .fifoNotFull t) q = bufByte (waitFor fifoNotFull .fifoNotFull s) q := by
      obtain ⟨_, h'⟩ := h'
      rw [bufByte, h'.buf, bufByte]
    have hstep (u : State) (hu : halted (waitFor fifoNotFull .fifoNotFull u) = false) : pushBytes (n + 1) q u
        = pushBytes n (q + 1) (writeDr 1 ((bufByte (waitFor fifoNotFull .fifoNotFull u) q).setWidth 32)
            (waitFor fifoNotFull .fifoNotFull u)) := if_neg (ne_true_of_eq_false hu)
    rw [hstep s hwait] at hn ⊢
    rw [hstep t h'.running, hbyte]
    obtain ⟨h'', hf'⟩ := h'.writeDr one_ne_zero (by omega) hf (by omega) ((bufByte (waitFor fifoNotFull .fifoNotFull s) q).setWidth 32)
    exact ih _ _ _ h'' (fun _ => hf') hn

theorem escorts_pushPair (q : Word) : Escorts (Feeding 2) (fun _ => True) (pushPair q) := by
  intro s t h hs hn
  have hbuf : t.buf = s.buf := by
    obtain ⟨_, h⟩ := h
    exact h.buf
  have hroom : 2 ≤ s.par.fifoDepth - s.fifo.length := by
    rcases writeDr_cases 2 ((0 : BitVec 16) ++ bufByte s (q.toNat + 1) ++ bufByte s q.toNat) s with ⟨-, he⟩ | ⟨hroom, -⟩
    · rw [pushPair, he] at hn
      cases hn
    · exact hroom
  simp only [pushPair, bufByte, hbuf]
  exact ⟨(h.writeDr (n := 0) two_ne_zero (by omega) hs hroom _).1, trivial⟩

end Sys2Proof.Machine
end

section
/-! PROOF. O17: each primitive's micro-steps escort both runs from its start to its end; where an operand is refused neither starts a
frame. -/

namespace Sys2Proof.Machine

variable {s t : State} {ms : List Micro}

/-! ### The primitives -/

/-- From an idle wire with nothing in the FIFO to an idle wire. -/
def EscortsPrimitive (ms : List Micro) : Prop := Escorts (Grounded fun _ => True) (fun s => s.ph = .idle) (runMicros ms)

/-- The end of the primitives that wait for `SR.TCF`. -/
theorem escorts_transfer :
    Escorts (fun _ => True) (fun s => s.ph = .idle) (runMicros [waitFor transferComplete .transferComplete, settle]) :=
  escorts_cons (escorts_transferComplete fun _ _ _ => trivial) <| escorts_cons escorts_settle <| escorts_nil fun _ => id

theorem escorts_rdid : EscortsPrimitive rdidSteps :=
  escorts_cons escorts_commonPre <| escorts_cons escorts_clearTcf <| escorts_cons (escorts_writeDlr 7) <|
    escorts_cons (escorts_writeTmw rfl (· = 7)) <| escorts_cons (escorts_writeAr_reading rfl 0) <|
    escorts_cons escorts_readIdentification <| escorts_nil fun _ => id

theorem escorts_cmd (o : Byte) (n : Lines) : EscortsPrimitive (cmdSteps o n) :=
  escorts_cons escorts_commonPre <| escorts_cons escorts_clearTcf <|
    escorts_cons (escorts_writeTmw_start _ fun _ _ => trivial) escorts_transfer

/-- WR1's word starts a frame that waits for two bytes. -/
theorem feeding_wr1 (o : Byte) {s : State} (h : Grounded (fun s => s.dlr = 1) s) : Feeding 2 (modeWordWritten (tmwOfWr1 o) s) := by
  have hstart : (ccrIndirect (tmwOfWr1 o) && ccrAl (tmwOfWr1 o) == 0b00) = true := by simp [tmwOfWr1, ccrIndirect]
  simp only [modeWordWritten, hstart, if_true]
  exact { busy := rfl, phase := ⟨nofun, nofun⟩, word := ⟨by simp [tmwOfWr1], by simp [tmwOfWr1, linesOf]⟩
          count := by simp [h.empty, h.known] }

theorem escorts_wr1 (o : Byte) (p : Word) : EscortsPrimitive (wr1Steps o 2 p) :=
  escorts_cons escorts_commonPre <| escorts_cons (escorts_require _ _) <| escorts_cons escorts_clearTcf <|
    escorts_cons (escorts_writeDlr 1) <| escorts_cons (escorts_writeTmw_start _ fun _ => feeding_wr1 o) <|
    escorts_cons (escorts_pushPair p) escorts_transfer

theorem escorts_wra (par : Params) (o : Byte) (n : Lines) (a len p : Word) : EscortsPrimitive (wraSteps par o n a len p) := by
  have haddr : (ccrAl (tmwOfWra par o n a len) == 0b00) = false := by simp [tmwOfWra]
  have hword (hn : len.toNat ≠ 0) : WriteWord (tmwOfWra par o n a len) ∧ ccrAl (tmwOfWra par o n a len) ≠ 0b00 := by
    have hlen : ¬(len == 0) = true := by simpa using fun h : len = 0 => hn (congrArg BitVec.toNat h)
    exact ⟨⟨by simp [tmwOfWra], by cases n <;> rw [tmwOfWra, if_neg hlen] <;> simp [linesOf, lineCode]⟩, by simpa using haddr⟩
  have hlen (s : State) (hs : len ≠ 0 → s.dlr = len - 1) (hn : len.toNat ≠ 0) : s.dlr.toNat + 1 = len.toNat := by
    rw [hs (by rintro rfl; exact hn rfl)]
    exact toNat_pred (by rintro rfl; exact hn rfl)
  exact escorts_cons escorts_commonPre <| escorts_cons escorts_clearTcf <| escorts_cons (escorts_writeLength len) <|
    escorts_cons (escorts_writeTmw haddr fun v => len ≠ 0 → v = len - 1) <| escorts_cons (escorts_writeAr_feeding a hword hlen) <|
    escorts_cons (escorts_pushBytes _ _) escorts_transfer

theorem escorts_rd1 (o : Byte) (len : Word) : EscortsPrimitive (rd1Steps o len) := by
  have hword (s : State) (_ : Grounded (fun s => s.dlr = len - 1) s) : Reading (modeWordWritten (tmwOfRd1 o) s) := by
    simp [Reading, modeWordWritten, tmwOfRd1]
  exact escorts_cons escorts_commonPre <| escorts_cons (escorts_require _ _) <| escorts_cons escorts_clearTcf <|
    escorts_cons (escorts_writeDlr _) <| escorts_cons (escorts_writeTmw_start _ hword) <|
    escorts_cons (escorts_transferComplete fun u _ hu => hu.kept (kept_wireStep u)) <| escorts_cons (escorts_assembleWord _) <|
    escorts_cons escorts_settle <| escorts_nil fun _ => id

theorem escorts_rda (par : Params) (o : Byte) (n : Lines) (a len p : Word) : EscortsPrimitive (rdaSteps par o n a len p) := by
  have haddr : (ccrAl (tmwOfRda par o n a) == 0b00) = false := by cases n <;> simp [tmwOfRda]
  have hread : ccrFm (tmwOfRda par o n a) = 0b01 := by cases n <;> simp [tmwOfRda]
  exact escorts_cons escorts_commonPre <| escorts_cons (escorts_require _ _) <| escorts_cons (escorts_require _ _) <|
    escorts_cons escorts_clearTcf <| escorts_cons (escorts_writeDlr _) <| escorts_cons (escorts_writeAlt _ fun _ _ => id) <|
    escorts_cons (escorts_writeTmw haddr (· = len - 1)) <| escorts_cons (escorts_writeAr_reading hread a) <|
    escorts_cons (escorts_drain _ _) <| escorts_cons escorts_settle <| escorts_nil fun _ => id

/-! ### Refused operands -/

/-- All that a run does that trails one at `s` is to raise `f`. -/
def RefusedAt (f : Fault) (s : State) (ms : List Micro) : Prop := ∀ t, Trails s t → hush.on (runMicros ms t) = hush.on (raise f s)

/-- Behind a check that passes. -/
theorem RefusedAt.cons {f : Fault} {m : Micro} (h : RefusedAt f s ms) (hm : Setup m) (hidle : s.ph = .idle) (hpass : m s = s) :
    RefusedAt f s (m :: ms) := by
  intro t ht
  obtain ⟨ht', -⟩ := escorts_setup (P := (· = s)) (Q := fun _ => True) hm (by rintro _ rfl; exact hidle) (fun _ _ _ _ => trivial) s
    (interleave t) ht.interleave rfl (hpass.symm ▸ ht.live.alone.running)
  rw [hpass] at ht'
  simp only [runMicros, ht.interleave.running, ht'.running, Bool.false_eq_true, if_false]
  exact h _ ht'

/-- At the check that fails. -/
theorem refusedAt_of_raise {f : Fault} {m : Micro} (hm : Setup m) (hidle : s.ph = .idle) (hf : m s = raise f s) :
    RefusedAt f s (m :: ms) := by
  intro t ht
  have hsame := ht.interleave.setup hm hidle
  rw [hf] at hsame
  have hfault : (m (interleave t)).fault = some f := (congrArg State.fault hsame :)
  have hhalted : halted (m (interleave t)) = true := by simp [halted, hfault]
  simpa only [runMicros, ht.interleave.running, hhalted, Bool.false_eq_true, if_false, if_true] using hsame

/-- At an operand check behind common checks that pass. -/
theorem refusedAt_operand {ok : Bool} (r : UnsupportedReason) (hc : Cleared s) (hidle : s.ph = .idle) (hok : ok = false) :
    RefusedAt (.unsupported r) s (commonPre :: require ok r :: ms) :=
  (refusedAt_of_raise (setup_require _ _) hidle (require_false hok _ _)).cons setup_commonPre hidle hc.commonPre

/-! ### A whole operation -/

/-- The run with turns and the run alone end alike. -/
structure EndsAlike (ms : List Micro) (s : State) : Prop where
  same : hush.on (runMicros ms (beginOp s)) = hush.on (runMicros ms (beginOp { s with sched := [] }))
  wound : (runMicros ms (beginOp { s with sched := [] })).unwound = false

theorem eq_of_hush (h : hush.on s = hush.on t) : s = { t with sched := s.sched, trace := s.trace } :=
  congrArg (fun u : State => { u with sched := s.sched, trace := s.trace }) h

/-- The end of an operation whose caller was not unwound. -/
theorem hush_endOp {s : State} (h : s.unwound = false) : hush.on (endOp s) = endOp (hush.on s) := by
  have hwound : (hush.on s).unwound = false := h
  simp only [endOp, h, hwound, apply_ite hush.on, Bool.false_eq_true, if_false]
  rfl

theorem EndsAlike.exec {i : Instr} (h : EndsAlike ms s) (hi : workOf s.par i = .operation ms) (hf : s.fault = none) :
    ∃ t u, exec i s = .next t ∧ exec i { s with sched := [] } = .next u
      ∧ t = { u with sched := t.sched, trace := t.trace } ∧ ownEvents t.trace = ownEvents u.trace := by
  have hrun (r : State) (hr : r.fault = none) (hpar : r.par = s.par) : Machine.exec i r = .next (endOp (runMicros ms (beginOp r))) := by
    rw [exec_of_none i r hr, hpar, hi]
    rfl
  have hwound : (runMicros ms (beginOp s)).unwound = false := (congrArg State.unwound h.same :).trans h.wound
  have hend : hush.on (endOp (runMicros ms (beginOp s))) = hush.on (endOp (runMicros ms (beginOp { s with sched := [] }))) := by
    rw [hush_endOp hwound, hush_endOp h.wound, h.same]
  exact ⟨_, _, hrun s hf rfl, hrun { s with sched := [] } hf rfl, eq_of_hush hend, congrArg State.trace hend⟩

section Ready

variable (h : Ready { s with sched := [] }) (hs : HarmlessSched s)
include h hs

/-- At the start of an operation the two runs are at the same point. -/
theorem trails_beginOp : Trails (beginOp { s with sched := [] }) (beginOp s) := by
  obtain ⟨hquiet, ⟨-, -, habort⟩, -, hresp, -, -, hclosed, -⟩ := h
  exact ⟨0, ⟨hresp, habort, alone_beginOp hquiet⟩, hclosed, hs, rfl⟩

/-- A primitive that ends normally when it is alone. -/
theorem endsAlike_of_escorts {i : Instr} {u : State} (hm : EscortsPrimitive ms) (hi : workOf s.par i = .operation ms)
    (he : exec i { s with sched := [] } = .next u) (hu : u.opDone = true) : EndsAlike ms s := by
  have hstart := trails_beginOp h hs
  obtain ⟨-, ⟨hidle, hempty, -⟩, -⟩ := h
  obtain ⟨-, rfl⟩ := (exec_next_iff i _ u).1 he
  have hwork : workOf { s with sched := [] }.par i = .operation ms := hi
  rw [hwork] at hu
  have hn := not_halted_of_endOp hu
  obtain ⟨hend, hidle'⟩ := hm _ _ hstart ⟨hidle, hempty, trivial⟩ hn
  exact ⟨hend.hush_eq hidle', ((halted_eq_false _).1 hn).2⟩

/-- A primitive whose operands are refused. -/
theorem endsAlike_of_refused {f : Fault} (hm : RefusedAt f (beginOp { s with sched := [] }) ms) : EndsAlike ms s := by
  have hstart := trails_beginOp h hs
  have hself := hm _ (trails_beginOp (s := { s with sched := [] }) h nofun)
  exact ⟨(hm _ hstart).trans hself.symm, (congrArg State.unwound hself :)⟩

end Ready

theorem withReport_opDone (id : List Byte) (s : State) : (withReport id s).opDone = s.opDone := by
  unfold withReport
  split <;> rfl

/-- RDA with operands that are refused: the length is tried first. -/
theorem refusedAt_rda (par : Params) {o : Byte} {n : Lines} {a len p : Word} (hc : Cleared s) (hidle : s.ph = .idle)
    (hbad : len = 0 ∨ n = .one ∧ o = 0x0B) : ∃ f, RefusedAt f s (rdaSteps par o n a len p) := by
  by_cases hlen : len = 0
  · exact ⟨_, refusedAt_operand .rdaLength hc hidle (by simpa using hlen)⟩
  · obtain ⟨rfl, rfl⟩ := hbad.resolve_left hlen
    have hfirst : require (len != 0) .rdaLength s = s := require_true (by simpa using hlen) _ _
    exact ⟨_, ((refusedAt_of_raise (setup_require _ _) hidle (require_false rfl .fastRead s)).cons (setup_require _ _) hidle hfirst).cons
      setup_commonPre hidle hc.commonPre⟩

theorem endsAlike_primitive {i : Instr} (hi : isPrimitive i = true) (h : Ready { s with sched := [] }) (hs : HarmlessSched s) :
    ∃ ms, workOf s.par i = .operation ms ∧ EndsAlike ms s := by
  have hc := h.cleared.beginOp
  have hidle : (beginOp { s with sched := [] }).ph = .idle := by
    obtain ⟨-, ⟨hidle, -⟩, -⟩ := h
    exact hidle
  cases i with
  | rdid => exact ⟨_, rfl, endsAlike_of_escorts h hs escorts_rdid rfl (exec_rdid h) (withReport_opDone _ _)⟩
  | cmd o n => exact ⟨_, rfl, endsAlike_of_escorts h hs (escorts_cmd o n) rfl (exec_cmd h o n) rfl⟩
  | wr1 o len p =>
    refine ⟨_, rfl, ?_⟩
    by_cases hlen : len = 2
    · subst hlen
      exact endsAlike_of_escorts h hs (escorts_wr1 o p) rfl (exec_wr1 h o p) rfl
    · exact endsAlike_of_refused h hs (refusedAt_operand _ hc hidle (by simpa using hlen))
  | wra o n a len p =>
    have he := wraSendsTheBuffer { s with sched := [] } o n a len p h
    exact ⟨_, rfl, endsAlike_of_escorts h hs (escorts_wra s.par o n a len p) rfl he rfl⟩
  | rd1 o len =>
    refine ⟨_, rfl, ?_⟩
    by_cases hlen : 1 ≤ len.toNat ∧ len.toNat ≤ 4
    · exact endsAlike_of_escorts h hs (escorts_rd1 o len) rfl (exec_rd1 h o len hlen.1 hlen.2) rfl
    · exact endsAlike_of_refused h hs (refusedAt_operand _ hc hidle (by simpa using hlen))
  | rda o n a len p =>
    refine ⟨_, rfl, ?_⟩
    by_cases hbad : len = 0 ∨ n = .one ∧ o = 0x0B
    · obtain ⟨_, hrefused⟩ := refusedAt_rda s.par hc hidle hbad
      exact endsAlike_of_refused h hs hrefused
    · obtain ⟨hlen, hfast⟩ := not_or.1 hbad
      exact endsAlike_of_escorts h hs (escorts_rda s.par o n a len p) rfl
        (rdaFillsTheBuffer { s with sched := [] } o n a len p h hlen hfast) rfl
  | _ => cases hi

/-- Settles O17: behind a closed window the turns only bring the wire engine forward, and each primitive waits where the run alone does. -/
theorem closedWindowShutsSpeculationOut : Obligations.ClosedWindowShutsSpeculationOut := by
  refine ⟨fun s a k hc => ?spec, fun i s hi h hs => ?primitive⟩
  case spec =>
    obtain ⟨v, hv⟩ := mappedAccess_spec_denied hc a k
    exact ⟨.cpuAccess .spec a k v, hv⟩
  case primitive =>
    obtain ⟨ms, hwork, hends⟩ := endsAlike_primitive hi h hs
    obtain ⟨⟨hfault, -⟩, -⟩ := h
    exact hends.exec hwork hfault

end Sys2Proof.Machine
end

section
/-! PROOF. O56, O57 and O59, the CPU's accesses through the window (44_access_library.md R250): the ways an access goes, and those that no
frame serves. O54: READ and WRITE of no bytes (R244). -/

namespace Sys2Proof.Machine

variable {s : State} {kind : CpuKind} {a : Word} {k : CpuSize}

/-! ### The ways an access goes -/

/-- The access lies inside the span. -/
def Spanned (s : State) (a : Word) (k : CpuSize) : Prop :=
  spanBase s.par ≤ a.toNat ∧ a.toNat + sizeBytes k ≤ spanBase s.par + Config.spanBytes

/-- The access lies inside the span, and its first and last byte are allowed. -/
structure Permitted (s : State) (a : Word) (k : CpuSize) : Prop where
  spanned : Spanned s a k
  first : allowed s a.toNat = true
  last : allowed s (a.toNat + sizeBytes k - 1) = true

theorem mappedAccess_outside (h : ¬Spanned s a k) : mappedAccess kind a k s = emit (.cpuAccess kind a k .outside) s :=
  if_pos (by simpa using not_and_or.1 h)

theorem mappedAccess_refused (h : Spanned s a k) (hd : ¬(allowed s a.toNat = true ∧ allowed s (a.toNat + sizeBytes k - 1) = true)) :
    mappedAccess kind a k s = if kind == .spec then emit (.cpuAccess kind a k .denied) s
      else raise (.windowDenied kind a k) (emit (.cpuAccess kind a k .denied) s) :=
  (if_neg (by simpa [Spanned] using h)).trans (if_pos (by simpa using not_and_or.1 hd))

/-- What a permitted access comes to. -/
theorem Permitted.mappedAccess (h : Permitted s a k) : mappedAccess kind a k s
    = if !crEn s.cr || !ccrMapped s.ccr then raiseWedged kind a k (emit (.cpuAccess kind a k .wedged) s)
      else if kind == .store then raise (.unsupported .storeThroughWindow) (emit (.cpuAccess kind a k .mapped) s)
      else if !s.par.responsive then
        raiseHang .mappedFrame (startFrame (beginMapped a (sizeBytes k) (emit (.cpuAccess kind a k .mapped) s)))
      else serveMapped kind a k (emit (.cpuAccess kind a k .mapped) (finishMapped s)) :=
  (if_neg (by simpa [Spanned] using h.spanned)).trans (if_neg (by simp [h.first, h.last]))

/-- The rows of the CPU port. -/
theorem exec_cpu (hf : s.fault = none) (v : Word) :
    ∀ x ∈ [(CpuKind.load, Instr.cpuLoad a k), (.store, .cpuStore a k v), (.fetch, .cpuFetch a k), (.spec, .cpuSpec a k)],
      exec x.2 s = .next (mappedAccess x.1 a k s) := by
  simp only [List.forall_mem_cons, List.not_mem_nil, false_imp_iff, implies_true, and_true]
  exact ⟨exec_of_none _ s hf, exec_of_none _ s hf, exec_of_none _ s hf, exec_of_none _ s hf⟩

/-- Settles O56: outside the span, and inside it where a byte is denied, the access is recorded and served nothing. -/
theorem deniedAccessesDoNothing : Obligations.DeniedAccessesDoNothing := by
  intro s a v k hf x hx
  rw [exec_cpu hf v x hx]
  obtain ⟨kind, i⟩ := x
  refine ⟨fun hout => congrArg Host.Outcome.next (mappedAccess_outside hout), fun hlo hhi hd => congrArg Host.Outcome.next ?_⟩
  rw [mappedAccess_refused ⟨hlo, hhi⟩ hd]
  by_cases hspec : kind = .spec
  · simp only [hspec, beq_self_eq_true, if_true, emit, ← hf]
  · simp only [beq_iff_eq, hspec, if_false]
    rfl

/-- Settles O57: what `Wedged` leaves undefined is the block's and the device's. -/
theorem unmappedAccessesWedge : Obligations.UnmappedAccessesWedge := by
  intro s a v k hf hlo hhi hfirst hlast hoff x hx
  have hwedged : (!crEn s.cr || !ccrMapped s.ccr) = true := by
    rcases hoff with h | h <;> simp [h]
  have hpermitted : Permitted s a k := ⟨⟨hlo, hhi⟩, hfirst, hlast⟩
  rw [exec_cpu hf v x hx, hpermitted.mappedAccess, if_pos hwedged]
  obtain ⟨hfault, htrace, hirq, hbuf, hpar, hdone, hsched, hinputs, -⟩ :=
    raiseWedged_frame x.1 a k (emit (.cpuAccess x.1 a k .wedged) s)
  exact ⟨_, rfl, hfault, htrace, hirq, hbuf, hpar, hdone, hinputs, hsched⟩

/-- Settles O59: the store is tried behind the mode word and before any frame starts. -/
theorem storesThroughTheWindowAreUnsupported : Obligations.StoresThroughTheWindowAreUnsupported := by
  intro s a v k hf hen hmap hlo hhi hfirst hlast
  have hpermitted : Permitted s a k := ⟨⟨hlo, hhi⟩, hfirst, hlast⟩
  rw [exec_cpu (a := a) (k := k) hf v (.store, .cpuStore a k v) (by simp), hpermitted.mappedAccess, if_neg (by simp [hen, hmap])]
  rfl

/-! ### No bytes -/

/-- Settles O54: READ and WRITE of no bytes are no micro-steps. -/
theorem zeroLengthIsANoOp : Obligations.ZeroLengthIsANoOp := by
  intro s a p hf
  have hend : endOp (beginOp s) = ended s := endOp_of_not_halted _ ((halted_eq_false _).2 ⟨hf, rfl⟩)
  exact ⟨(exec_of_none _ s hf).trans (congrArg Host.Outcome.next hend), (exec_of_none _ s hf).trans (congrArg Host.Outcome.next hend)⟩

end Sys2Proof.Machine
end

section
/-! PROOF. O58, the frame that serves an access (44_access_library.md R251): what it carries, and what of it has moved when the access is
answered. -/

namespace Sys2Proof.Machine

variable {s : State} {kind : CpuKind} {a : Word} {k : CpuSize}

/-! ### What the device answers -/

/-- The bytes of a read frame in two parts. -/
theorem devBytes_append (s : State) (ans : DevAnswer) (i n m d : Nat) :
    devBytes s ans i n d ++ devBytes s ans (i + n) m (d + n) = devBytes s ans i (n + m) d := by
  simp [devBytes, List.range_add, Nat.add_assoc, Function.comp_def]

theorem arrayBytes_inside {x n : Nat} (h : x + n ≤ capBytes s.par) (d : Nat) :
    arrayBytes s x n d = (List.range n).map fun i => psramByte s (x + i) := by
  refine List.map_congr_left fun i hi => if_pos ?_
  have hi := List.mem_range.1 hi
  omega

/-- An address of the device is sent whole under the memory-mapped word. -/
theorem sentAddress_asizeMapped {p : Params} {x : Nat} (hx : x < capBytes p) (hcap : capBytes p ≤ 2 ^ 28) :
    sentAddress (asizeMapped p) (BitVec.ofNat 32 x) = BitVec.ofNat 32 x := by
  refine sentAddress_of_wf (a := ⟨.one, asizeMapped p, BitVec.ofNat 32 x⟩) ?_
  unfold asizeMapped asizeOf
  split
  · rfl
  next hsmall =>
    refine decide_eq_true ?_
    rw [BitVec.toNat_ofNat, Nat.mod_eq_of_lt (by omega)]
    simp only [Config.addr32Threshold] at hsmall
    omega

/-! ### The frame -/

/-- The frame of an access, `n` bytes of data. -/
def mappedShape (p : Params) (x n : Nat) : FrameShape :=
  ⟨ciLines p .four, 0xEB, some ⟨.four, asizeMapped p, BitVec.ofNat 32 x⟩, if p.altEn then some ⟨.four, Config.altValue⟩ else none, 6,
    some ⟨.four, .read, n⟩⟩

/-- The memory-mapped word stands in `CCR` with its alternate byte in `ABR`, and the device reads in QPI mode. -/
structure Mapping (s : State) : Prop where
  word : s.ccr = tmwOfMmap s.par
  alt : s.par.altEn = true → s.abr = 0
  dev : s.devMode = .qpi
  cap : capBytes s.par ≤ 2 ^ 28

theorem Mapping.shape (h : Mapping s) (ha : a.toNat - spanBase s.par < capBytes s.par) (n : Nat) :
    (beginMapped a n s).shape = mappedShape s.par (a.toNat - spanBase s.par) (n + readAhead s.draws n) := by
  have halt : ((linesOf (altCode s.par)).map fun l => (⟨l, s.abr.extractLsb' 0 8⟩ : AltPhase))
      = if s.par.altEn then some ⟨.four, Config.altValue⟩ else none := by
    rw [altCode]
    cases hen : s.par.altEn with
    | false => rfl
    | true =>
      rw [h.alt hen]
      rfl
  rw [shape_mmap (beginMapped a n s) h.word, mappedShape, ← halt, ← sentAddress_asizeMapped ha h.cap]
  rfl

theorem Mapping.answer (h : Mapping s) {x : Nat} (hx : x < capBytes s.par) (n : Nat) :
    answerTo s (mappedShape s.par x n) = .readMem x := by
  have halt : optionalAlt (mappedShape s.par x n) = true := by
    unfold optionalAlt mappedShape
    cases s.par.altEn <;> rfl
  rw [answerTo_quadRead h.dev rfl rfl ⟨rfl, rfl⟩ halt rfl rfl]
  have hcap := h.cap
  exact congrArg DevAnswer.readMem (Nat.mod_eq_of_lt (by omega))

theorem getLastD_flatMap_read {bs : List Byte} (hbs : bs ≠ []) (io : LineClock) :
    (bs.flatMap (byteClocks .four .read)).getLastD io = .in4 ((bs.getLastD 0).extractLsb' 0 4) := by
  obtain ⟨xs, b, rfl⟩ := (List.eq_nil_or_concat' bs).resolve_left hbs
  simp [byteClocks, List.getLastD_eq_getLast?]

/-- An access answered by its frame; `x` is its address in the device. -/
def servedAccess (kind : CpuKind) (x : Nat) (k : CpuSize) (s : State) : State :=
  let n := sizeBytes k
  let ahead := readAhead s.draws n
  let moved := n + min (Config.drawMoved s.draws) ahead
  let whole := decide (ahead ≤ Config.drawMoved s.draws)
  let bytes := arrayBytes s x moved (s.draws + 1)
  { s with
    busy := .drawn, wireBytes := bytes, mapAddr := BitVec.ofNat 32 x, mapLen := n + ahead, clk := false
    nCS := whole, ph := if whole then .idle else .data
    io := if whole then .undriven else .in4 ((bytes.getLastD 0).extractLsb' 0 4)
    draws := s.draws + 1 + moved
    cpuRdata := if kind == .spec then s.cpuRdata else leWord ((List.range n).map fun i => psramByte s (x + i))
    trace := s.trace ++ if whole then [.frame (frameRecord (mappedShape s.par x 0) true false bytes)] else [] }

theorem Mapping.serveMapped (h : Mapping s) (hfifo : s.fifo = []) {x : Nat} (ha : a.toNat = spanBase s.par + x)
    (hx : x + sizeBytes k ≤ capBytes s.par) : serveMapped kind a k s = servedAccess kind x k s := by
  have hsize : 0 < sizeBytes k := by cases k <;> decide
  have hsub : a.toNat - spanBase s.par = x := by omega
  have hshape := h.shape (a := a) (by omega) (sizeBytes k)
  have hans := h.answer (x := x) (by omega) (sizeBytes k + readAhead s.draws (sizeBytes k))
  rw [hsub] at hshape
  have hbytes (m : Nat) : devBytes s (.readMem x) 0 (sizeBytes k) (s.draws + 1)
      ++ devBytes s (.readMem x) (sizeBytes k) m (s.draws + 1 + sizeBytes k) = arrayBytes s x (sizeBytes k + m) (s.draws + 1) := by
    rw [← devBytes_readMem, ← devBytes_append, Nat.zero_add]
  have hfirst := (devBytes_readMem s x (sizeBytes k) (s.draws + 1)).trans (arrayBytes_inside hx _)
  have hne : arrayBytes s x (sizeBytes k + min (Config.drawMoved s.draws) (readAhead s.draws (sizeBytes k))) (s.draws + 1) ≠ [] := by
    simp [arrayBytes, hsize.ne']
  have hlatch : deviceLatch (.readMem x) (beginMapped a (sizeBytes k) s) = beginMapped a (sizeBytes k) s := rfl
  have hdata (n : Nat) : (mappedShape s.par x n).data = some ⟨.four, .read, n⟩ := rfl
  unfold Machine.serveMapped
  simp only [hshape, hans, hdata, hlatch, hbytes, Option.isNone_some, Bool.false_or, Bool.false_eq_true, if_false,
    Option.map_some, Option.getD_some, getLastD_flatMap_read hne]
  simp only [beginMapped, hsub, hfirst, servedAccess, hfifo, Nat.add_assoc]
  rfl

/-! ### The access between two library operations -/

/-- An open window permits the accesses of the device. -/
theorem permitted_of_open (ho : windowOpen s = true) (hcap : capBytes s.par ≤ 2 ^ 28) (hlo : spanBase s.par ≤ a.toNat)
    (hhi : a.toNat + sizeBytes k ≤ spanBase s.par + capBytes s.par) : Permitted s a k := by
  have hsize : 0 < sizeBytes k := by cases k <;> decide
  have hspan : Config.spanBytes = 2 ^ 28 := rfl
  have hallowed {x : Nat} (hx : spanBase s.par ≤ x) (hx' : x < spanBase s.par + capBytes s.par) : allowed s x = true := by
    refine ((windowOpenIffExactlyValidAllowed s).1 ho x ((inSpan_iff _ _).2 (by omega))).2 ?_
    simp [inValid, hx, hx']
  exact ⟨⟨hlo, by omega⟩, hallowed hlo (by omega), hallowed (by omega) (by omega)⟩

/-- The window is open on a controller that is memory-mapped and answers. -/
structure Windowed (s : State) : Prop extends Mapping s where
  running : s.fault = none
  enabled : crEn s.cr = true
  responsive : s.par.responsive = true
  opened : windowOpen s = true

theorem LibraryReady.windowed (h : LibraryReady s) (hm : s.mode = .memoryMapped) (halt : s.par.altEn = true → s.abr = 0) :
    Windowed s ∧ s.fifo = [] ∧ (s.ph = .idle ∨ s.busy = .drawn) := by
  obtain ⟨hf, hfifo, -, ⟨hlegal, -⟩, hresp, hen, hdev, hbracket⟩ := h
  rcases hbracket with ⟨hmode, -⟩ | ⟨-, hopen, hccr, hwire⟩
  · exact absurd (hm.symm.trans hmode) nofun
  · exact ⟨⟨⟨hccr, halt, hdev, (capBytes_bounds hlegal).2⟩, hf, hen, hresp, hopen⟩, hfifo, hwire.imp_right And.right⟩

/-- A permitted access that is no store is served behind the frame that is still on the wire. -/
theorem Windowed.mappedAccess (h : Windowed s) (hk : kind ≠ .store) (hlo : spanBase s.par ≤ a.toNat)
    (hhi : a.toNat + sizeBytes k ≤ spanBase s.par + capBytes s.par) :
    mappedAccess kind a k s = serveMapped kind a k (emit (.cpuAccess kind a k .mapped) (finishMapped s)) := by
  have hmapped : ccrMapped s.ccr = true := by simp [h.word, tmwOfMmap, ccrMapped]
  rw [(permitted_of_open h.opened h.cap hlo hhi).mappedAccess, if_neg (by simp [h.enabled, hmapped]), if_neg (by simpa using hk),
    if_neg (by simp [h.responsive])]

theorem Windowed.prefetchEnded (h : Windowed s) : Windowed (prefetchEnded s) := { h with }

theorem finishMapped_idle (hidle : s.ph = .idle) : finishMapped s = s := if_pos (by simp [hidle])

theorem Windowed.mappedAccess_idle (h : Windowed s) (hk : kind ≠ .store) (hidle : s.ph = .idle) (hfifo : s.fifo = []) {x : Nat}
    (ha : a.toNat = spanBase s.par + x) (hx : x + sizeBytes k ≤ capBytes s.par) :
    Machine.mappedAccess kind a k s = servedAccess kind x k (emit (.cpuAccess kind a k .mapped) s) := by
  have hmapping : Mapping (emit (.cpuAccess kind a k .mapped) s) := ⟨h.word, h.alt, h.dev, h.cap⟩
  rw [h.mappedAccess hk (by omega) (by omega), finishMapped_idle hidle]
  exact hmapping.serveMapped hfifo ha hx

/-- The frame still on the wire ends first. -/
theorem Windowed.mappedAccess_running (h : Windowed s) (hk : kind ≠ .store) (hwire : s.ph ≠ .idle) (hb : s.busy = .drawn)
    (hlo : spanBase s.par ≤ a.toNat) (hhi : a.toNat + sizeBytes k ≤ spanBase s.par + capBytes s.par) :
    Machine.mappedAccess kind a k s = Machine.mappedAccess kind a k (Machine.prefetchEnded s) := by
  have hmapped : ccrMapped s.ccr = true := by simp [h.word, tmwOfMmap, ccrMapped]
  rw [h.mappedAccess hk hlo hhi, h.prefetchEnded.mappedAccess hk hlo hhi, finishMapped_eq s hb hmapped, if_neg hwire,
    finishMapped_idle (s := Machine.prefetchEnded s) rfl]

/-- Settles O58: the frame of the access asks the device for the array from the access's address on. -/
theorem mappedAccessesReadTheDevice : Obligations.MappedAccessesReadTheDevice := by
  intro s a k h hm halt hlo hhi n x ahead moved whole bytes f served word
  obtain ⟨hw, hfifo, hwire⟩ := LibraryReady.windowed h hm halt
  have ha : a.toNat = spanBase s.par + x := (Nat.add_sub_cancel' hlo).symm
  have hx : x + sizeBytes k ≤ capBytes s.par := by omega
  constructor
  · intro hidle
    have hserved {kind : CpuKind} (hk : kind ≠ .store) := hw.mappedAccess_idle (kind := kind) hk hidle hfifo ha hx
    exact ⟨(exec_of_none _ s hw.running).trans (congrArg Host.Outcome.next (hserved nofun)),
      (exec_of_none _ s hw.running).trans (congrArg Host.Outcome.next (hserved nofun)),
      (exec_of_none _ s hw.running).trans (congrArg Host.Outcome.next (hserved nofun))⟩
  · intro hrunning
    have hsame {kind : CpuKind} (hk : kind ≠ .store) := hw.mappedAccess_running hk hrunning (hwire.resolve_left hrunning) hlo hhi
    have hexec {i : Instr} {kind : CpuKind} (hi : workOf s.par i = .agent (mappedAccess kind a k)) (hk : kind ≠ .store) :
        exec i s = exec i (prefetchEnded s) := by
      have hi' : workOf (prefetchEnded s).par i = .agent (mappedAccess kind a k) := hi
      rw [exec_of_none i s hw.running, exec_of_none i (prefetchEnded s) hw.running, hi, hi']
      exact congrArg Host.Outcome.next (hsame hk)
    simp only [List.forall_mem_cons, List.not_mem_nil, false_imp_iff, implies_true, and_true]
    exact ⟨hexec rfl nofun, hexec rfl nofun, hexec rfl nofun⟩

end Sys2Proof.Machine
end

section
/-! PROOF. O49 and O50, READ and WRITE when no other agent steps (44_access_library.md R243, R245): the micro-steps of ACQUIRE, of
the primitive and of RELEASE run one after the other. -/

namespace Sys2Proof.Machine

variable {s : State}

/-! ### From one part to the next -/

theorem kept_deviceAfter (f : FrameShape) (bytes : List Byte) (s : State) : Kept s (deviceAfter f bytes s) :=
  kept_deviceEnd _ _ ((kept_deviceLatch _ (.refl s)).trans (kept_devWriteBytes _ _ _ _))

theorem frameDone_par (f : FrameShape) (moved toDevice : List Byte) (r : State) : (frameDone f moved toDevice r).par = r.par := by
  rw [frameDone_eq_graft]
  exact (congrArg State.par (kept_deviceAfter f toDevice r).still :)

theorem Ready.frameDone {r : State} (h : Ready r) (f : FrameShape) (moved toDevice : List Byte) : Ready (frameDone f moved toDevice r) := by
  have hpar : (deviceAfter f toDevice r).par = r.par := (congrArg State.par (kept_deviceAfter f toDevice r).still :)
  obtain ⟨hquiet, ⟨-, -, habort⟩, hp, hresp, hmode, hen, hclosed, -⟩ := h
  rw [frameDone_eq_graft]
  refine ⟨hquiet, ⟨rfl, rfl, habort⟩, hpar.symm ▸ hp, (congrArg Params.responsive hpar).trans hresp, hmode, hen, ?_, rfl⟩
  exact (congrArg (fun p => windowClosed { r with par := p }) hpar :).trans hclosed

theorem Ready.rdaDone (h : Ready s) (o : Byte) (n : Lines) (a len p : Word) : Ready (rdaDone o n a len p s) :=
  Ready.frameDone (r := { s with
    dlr := len - 1, ccr := tmwOfRda s.par o n a, ar := a
    abr := if n = .four ∧ s.par.altEn = true then Config.altValue.setWidth 32 else s.abr }) h _ _ _

theorem Ready.wraDone (h : Ready s) (o : Byte) (n : Lines) (a len p : Word) : Ready (wraDone o n a len p s) :=
  Ready.frameDone (r := { s with dlr := if len = 0 then s.dlr else len - 1, ccr := tmwOfWra s.par o n a len, ar := a }) h _ _ _

/-- The bus between two library operations, taken, is ready for a primitive. -/
theorem LibraryReady.acquired (h : LibraryReady s) (hs : s.sched = []) : Ready (acquired s) := by
  obtain ⟨hf, hfifo, habort, hp, hresp, hen, -, hbracket⟩ := h
  have hclosed := windowClosed_closed (busyRead s)
  rw [acquired_eq]
  cases hb : busyReads s with
  | true =>
    have hcr : crClearAbort (crSetAbort s.cr) = s.cr := crClearAbort_crSetAbort habort
    exact ⟨⟨hf, hs⟩, ⟨rfl, rfl, (congrArg crAbort hcr).trans habort⟩, hp, hresp, rfl, (congrArg crEn hcr).trans hen, hclosed, rfl⟩
  | false =>
    have hidle : s.ph = .idle := by
      rcases hbracket with ⟨-, -, -, hidle⟩ | ⟨-, -, -, hidle | ⟨hdata, hdrawn⟩⟩
      · exact hidle
      · exact hidle
      · simp [busyReads, hdata, hdrawn] at hb
    exact ⟨⟨hf, hs⟩, ⟨hidle, hfifo, habort⟩, hp, hresp, rfl, hen, hclosed, rfl⟩

theorem LibraryReady.initialized (h : LibraryReady s) : s.mode ≠ .uninitialized := by
  obtain ⟨-, -, -, -, -, -, -, ⟨hm, -⟩ | ⟨hm, -⟩⟩ := h <;> rw [hm] <;> exact nofun

theorem acquired_beginOp (s : State) : acquired (beginOp s) = beginOp (acquired s) := by
  have hbusy : busyReads (beginOp s) = busyReads s := rfl
  rw [acquired_eq, acquired_eq, hbusy]
  cases busyReads s <;> rfl

theorem Alone.acquired (h : Alone s) : Alone (acquired s) := by
  have hread : Alone (closed (busyRead s)) := ⟨h.sched, h.running⟩
  have hrecovered := hread.recovered (busyReads s)
  exact ⟨hrecovered.sched, hrecovered.running⟩

theorem runMicros_acquireSteps (h : Alone s) (hm : s.mode ≠ .uninitialized) (ha : crAbort s.cr = false) (ms : List Micro) :
    runMicros (acquireSteps ++ ms) s = runMicros ms (acquired s) := by
  have hclosed : Alone (closed s) := ⟨h.sched, h.running⟩
  have hread : Alone (closed (busyRead s)) := ⟨h.sched, h.running⟩
  have hrecovered := hread.recovered (busyReads s)
  have hpre : acquirePre s = s := if_neg (by simpa using hm)
  rw [acquireSteps, List.cons_append, List.cons_append, List.cons_append, List.cons_append, h.runMicros_cons hpre h,
    h.runMicros_cons (denyStep_eq_closed _) hclosed, runMicros_recover h ha, List.singleton_append,
    hrecovered.runMicros_cons (t := Machine.acquired s) rfl h.acquired]

theorem runMicros_releaseSteps (h : Alone s) (hc : Cleared s) : runMicros (releaseSteps s.par) s = released s := by
  have hpre : releasePre s = s := if_pos (by simpa using hc.mode)
  have hmapped : Alone (mapped s) := ⟨h.sched, h.running⟩
  have hopened : Alone (opened (mapped s)) := ⟨h.sched, h.running⟩
  rw [releaseSteps, List.cons_append, h.runMicros_cons hpre h, runMicros_mmapSteps h hc,
    hmapped.runMicros_cons (allowStep_eq_opened _) hopened, hopened.runMicros_setMode]
  rfl

/-- An operation under way, but for its mark of the last one's end. -/
def underway (d : Bool) (s : State) : State := { beginOp s with opDone := d }

theorem Quiet.alone_underway (h : Quiet s) (d : Bool) : Alone (underway d s) := ⟨h.2, (alone_beginOp h).running⟩

/-- What an operation that ended normally has run to. -/
theorem runMicros_of_next {i : Instr} {ms : List Micro} {u : State} (hi : workOf s.par i = .operation ms) (he : exec i s = .next u)
    (hu : u.opDone = true) : ∃ d, runMicros ms (beginOp s) = { u with opDone := d } := by
  obtain ⟨-, hend⟩ := (exec_next_iff i s u).1 he
  rw [hi, Work.after] at hend
  have hn : halted (runMicros ms (beginOp s)) = false := not_halted_of_endOp (hend ▸ hu)
  rw [endOp_of_not_halted _ hn] at hend
  exact ⟨_, congrArg (fun u : State => { u with opDone := (runMicros ms (beginOp s)).opDone }) hend.symm⟩

theorem runMicros_of_exec {i : Instr} {ms : List Micro} {z : State} (hi : workOf s.par i = .operation ms)
    (he : exec i s = .next (ended z)) : ∃ d, runMicros ms (beginOp s) = underway d z := runMicros_of_next (u := ended z) hi he rfl

theorem mapped_underway (d : Bool) (s : State) : mapped (underway d s) = underway d (mapped s) := rfl

theorem opened_underway (d : Bool) (s : State) : opened (underway d s) = underway d (opened s) := rfl

theorem released_underway (d : Bool) (s : State) : released (underway d s) = underway d (released s) := by
  rw [released, mapped_underway, opened_underway]
  rfl

/-! ### READ and WRITE -/

theorem acquired_par (s : State) : (acquired s).par = s.par := by
  rw [acquired_eq]
  cases busyReads s <;> rfl

/-- A library operation around a primitive that ends normally where the bus has been taken. -/
theorem exec_access {i j : Instr} {ms : List Micro} {r : MisuseReason} {a len : Word} {z : State} (h : LibraryReady s) (hs : s.sched = [])
    (hrange : a.toNat + len.toNat ≤ capBytes s.par)
    (hi : workOf s.par i = .operation (accessPre r a len :: acquireSteps ++ ms ++ releaseSteps s.par))
    (hj : workOf s.par j = .operation ms) (he : exec j (acquired s) = .next (ended z)) (hz : Ready z) (hpar : z.par = s.par) :
    exec i s = .next (ended (released z)) := by
  have hinit := LibraryReady.initialized h
  have hready := LibraryReady.acquired h hs
  obtain ⟨hf, -, habort, -⟩ := h
  obtain ⟨d, hrun⟩ := runMicros_of_exec (s := acquired s) ((acquired_par s).symm ▸ hj) he
  have hbegin : Alone (beginOp s) := alone_beginOp ⟨hf, hs⟩
  have hpre : accessPre r a len (beginOp s) = beginOp s := by
    rw [accessPre, if_neg (by simpa using hinit)]
    exact if_neg (Nat.not_lt.2 hrange)
  have halone : Alone (underway d z) := Quiet.alone_underway hz.1 d
  have hc := hz.cleared
  have hcleared : Cleared (underway d z) := ⟨hc.mode, hc.enabled, hc.closed, hc.free⟩
  have hacquired : Alone (beginOp (acquired s)) := alone_beginOp hready.1
  have hrelease : runMicros (releaseSteps s.par) (underway d z) = released (underway d z) := hpar ▸ runMicros_releaseSteps halone hcleared
  have hrun : runMicros (accessPre r a len :: acquireSteps ++ ms ++ releaseSteps s.par) (beginOp s) = released (underway d z) := by
    simp only [List.cons_append, List.append_assoc]
    rw [hbegin.runMicros_cons hpre hbegin, runMicros_acquireSteps hbegin hinit habort, acquired_beginOp,
      runMicros_append _ _ _ hacquired.running, hrun, if_neg (by simp [halone.running]), hrelease]
  have hend : Alone (released (underway d z)) := ⟨halone.sched, halone.running⟩
  rw [exec_of_run ⟨hf, hs⟩ hi hrun hend, released_underway]
  rfl

/-- Settles O49: the bus is taken, RDA reads what it always reads there, and the bus is released. -/
theorem readIsAcquireRdaRelease : Obligations.ReadIsAcquireRdaRelease := by
  intro s a len p h hs hlen hrange
  have hready := LibraryReady.acquired h hs
  have hwork : workOf s.par (.read a len p)
      = .operation (accessPre .readBeforeInit a len :: acquireSteps ++ rdaSteps s.par 0xEB .four a len p ++ releaseSteps s.par) :=
    congrArg Work.operation (if_neg (by simpa using hlen))
  exact exec_access h hs hrange hwork (j := .rda 0xEB .four a len p) rfl (rdaFillsTheBuffer _ 0xEB .four a len p hready hlen nofun)
    (hready.rdaDone ..) ((frameDone_par ..).trans (acquired_par s))

/-- Settles O50: the bus is taken, WRA writes what it always writes there, and the bus is released. -/
theorem writeIsAcquireWraRelease : Obligations.WriteIsAcquireWraRelease := by
  intro s a len p h hs hlen hrange
  have hready := LibraryReady.acquired h hs
  have hwork : workOf s.par (.write a len p)
      = .operation (accessPre .writeBeforeInit a len :: acquireSteps ++ wraSteps s.par 0x38 .four a len p ++ releaseSteps s.par) :=
    congrArg Work.operation (if_neg (by simpa using hlen))
  exact exec_access h hs hrange hwork (j := .wra 0x38 .four a len p) rfl (wraSendsTheBuffer _ 0x38 .four a len p hready)
    (hready.wraDone ..) ((frameDone_par ..).trans (acquired_par s))

end Sys2Proof.Machine
end

section
/-! PROOF. What READ and WRITE do to the array and to the buffer (44_access_library.md R243, R245), and O60: a load through the window finds
what WRITE stored (R254). -/

namespace Sys2Proof.Machine

variable {s t u : State} {a len p : Word}

/-! ### The array and the buffer -/

/-- The array and the buffer are as they were. -/
structure SameData (s t : State) : Prop where
  psram : t.psram = s.psram
  epoch : t.psramEpoch = s.psramEpoch
  buf : t.buf = s.buf

theorem SameData.trans (h : SameData s t) (h' : SameData t u) : SameData s u :=
  ⟨h'.psram.trans h.psram, h'.epoch.trans h.epoch, h'.buf.trans h.buf⟩

theorem SameData.psramByte (h : SameData s t) (x : Nat) : psramByte t x = psramByte s x := by
  rw [Machine.psramByte, h.psram, h.epoch, Machine.psramByte]

theorem SameData.bufByte (h : SameData s t) (q : Nat) : bufByte t q = bufByte s q := by
  rw [Machine.bufByte, h.buf, Machine.bufByte]

/-- `n` bytes of the array are in the buffer, and nothing else has changed. -/
structure Fetched (s t : State) (a p n : Nat) : Prop where
  filled : ∀ i < n, bufByte t (p + i) = psramByte s (a + i)
  outside : bufKeptOutside s t p n
  array : ∀ x, psramByte t x = psramByte s x

/-- `n` bytes of the buffer are in the array, and nothing else has changed. -/
structure Written (s t : State) (a p n : Nat) : Prop where
  stored : ∀ i < n, psramByte t (a + i) = bufByte s (p + i)
  outside : psramKeptOutside s t a n
  buffer : ∀ q, bufByte t q = bufByte s q

section Transport

variable {s' t' : State} {a p n : Nat}

theorem Fetched.transport (h : Fetched s t a p n) (hs : SameData s' s) (ht : SameData t t') : Fetched s' t' a p n where
  filled i hi := by rw [ht.bufByte, h.filled i hi, hs.psramByte]
  outside q hq := by rw [ht.bufByte, h.outside q hq, hs.bufByte]
  array x := by rw [ht.psramByte, h.array x, hs.psramByte]

theorem Written.transport (h : Written s t a p n) (hs : SameData s' s) (ht : SameData t t') : Written s' t' a p n where
  stored i hi := by rw [ht.psramByte, h.stored i hi, hs.bufByte]
  outside x hx := by rw [ht.psramByte, h.outside x hx, hs.psramByte]
  buffer q := by rw [ht.bufByte, h.buffer q, hs.bufByte]

end Transport

theorem sameData_acquired (s : State) : SameData s (acquired s) := by
  rw [acquired_eq]
  cases busyReads s <;> exact ⟨rfl, rfl, rfl⟩

theorem LibraryReady.acquired_devMode (h : LibraryReady s) : (Machine.acquired s).devMode = .qpi := by
  obtain ⟨-, -, -, -, -, -, hdev, -⟩ := h
  rw [acquired_eq]
  cases busyReads s <;> exact hdev

/-! ### The primitives on a device in QPI mode -/

/-- RDA's frame, as READ sends it, asks for the array from its address on. -/
theorem answerTo_rdaFrame (hm : s.devMode = .qpi) : answerTo s (rdaFrame s.par 0xEB .four a len) = .readMem a.toNat := by
  have halt : optionalAlt (rdaFrame s.par 0xEB .four a len) = true := by
    unfold optionalAlt rdaFrame
    cases s.par.altEn <;> rfl
  exact answerTo_quadRead hm rfl rfl ⟨rfl, rfl⟩ halt rfl rfl

/-- WRA's frame, as WRITE sends it, stores in the array from its address on. -/
theorem answerTo_wraFrame (hm : s.devMode = .qpi) (hlen : len ≠ 0) : answerTo s (wraFrame s.par 0x38 .four a len) = .writeMem a.toNat :=
  answerTo_quadWrite (a := ⟨.four, asizeOf a.toNat, a⟩) (n := len.toNat) hm rfl rfl ⟨rfl, rfl⟩ ⟨rfl, rfl⟩ (if_neg hlen)

/-- The device after a frame is what the frame made of it. -/
theorem frameDone_device (f : FrameShape) (moved toDevice : List Byte) (r : State) :
    (frameDone f moved toDevice r).psram = (deviceAfter f toDevice r).psram
      ∧ (frameDone f moved toDevice r).psramEpoch = (deviceAfter f toDevice r).psramEpoch
      ∧ (frameDone f moved toDevice r).devMode = (deviceAfter f toDevice r).devMode ∧ (frameDone f moved toDevice r).buf = r.buf := by
  rw [frameDone_eq_graft]
  exact ⟨rfl, rfl, rfl, rfl⟩

theorem fetched_rdaDone (hm : s.devMode = .qpi) (hrange : a.toNat + len.toNat ≤ capBytes s.par) :
    Fetched s (rdaDone 0xEB .four a len p s) a.toNat p.toNat len.toNat ∧ (rdaDone 0xEB .four a len p s).devMode = .qpi := by
  have hans := answerTo_rdaFrame (a := a) (len := len) hm
  have hbytes : answered s (rdaFrame s.par 0xEB .four a len) len.toNat = (List.range len.toNat).map fun i => psramByte s (a.toNat + i) := by
    rw [answered, hans, devBytes_readMem, arrayBytes_inside hrange]
  let r : State := { s with
    dlr := len - 1, ccr := tmwOfRda s.par 0xEB .four a, ar := a
    abr := if Lines.four = .four ∧ s.par.altEn = true then Config.altValue.setWidth 32 else s.abr }
  have hafter : deviceAfter (rdaFrame s.par 0xEB .four a len) [] r = r := deviceAfter_of_answerTo (s := r) hans []
  obtain ⟨hpsram, hepoch, hdev, -⟩ :=
    hafter ▸ frameDone_device (rdaFrame s.par 0xEB .four a len) (answered s (rdaFrame s.par 0xEB .four a len) len.toNat) [] r
  have hbuf : (rdaDone 0xEB .four a len p s).buf
      = s.buf.writeList p.toNat ((List.range len.toNat).map fun i => psramByte s (a.toNat + i)) :=
    congrArg (s.buf.writeList p.toNat) hbytes
  refine ⟨⟨fun i hi => ?_, fun q hq => ?_, fun x => ?_⟩, hdev.trans hm⟩
  · rw [bufByte, hbuf, Memory.read_writeList_inside _ _ _ _ (by simpa using hi)]
    simp
  · rw [bufByte, hbuf, Memory.read_writeList_outside _ _ _ _ (by simpa using hq), bufByte]
  · exact SameData.psramByte (s := s) (t := { rdaDone 0xEB .four a len p s with buf := s.buf }) ⟨hpsram, hepoch, rfl⟩ x

theorem written_wraDone (hm : s.devMode = .qpi) (hlen : len ≠ 0) (hrange : a.toNat + len.toNat ≤ capBytes s.par) :
    Written s (wraDone 0x38 .four a len p s) a.toNat p.toNat len.toNat ∧ (wraDone 0x38 .four a len p s).devMode = .qpi := by
  let r : State := { s with dlr := if len = 0 then s.dlr else len - 1, ccr := tmwOfWra s.par 0x38 .four a len, ar := a }
  let bytes := bufRead s p.toNat len.toNat
  have hcount : bytes.length = len.toNat := length_bufRead ..
  have hafter : deviceAfter (wraFrame s.par 0x38 .four a len) bytes r = { r with psram := r.psram.writeList a.toNat bytes } := by
    rw [deviceAfter_of_answerTo (s := r) (answerTo_wraFrame (s := r) hm hlen)]
    exact devWriteBytes_within (s := r) (.inr (by rw [hcount]; exact hrange))
  obtain ⟨hpsram, hepoch, hdev, hbuf⟩ := hafter ▸ frameDone_device (wraFrame s.par 0x38 .four a len) bytes bytes r
  have hread (x : Nat) : psramByte (wraDone 0x38 .four a len p s) x
      = ((s.psram.writeList a.toNat bytes).read x).getD (Config.drawPsram s.psramEpoch x) := by
    rw [psramByte, wraDone, hpsram, hepoch]
  refine ⟨⟨fun i hi => ?_, fun x hx => ?_, fun q => congrArg (fun m : Memory => (m.read q).getD (Config.drawBuf q)) hbuf⟩, hdev.trans hm⟩
  · rw [hread, Memory.read_writeList_inside _ _ _ _ (by rwa [hcount])]
    simp [bytes, bufRead]
  · rw [hread, Memory.read_writeList_outside _ _ _ _ (by rwa [hcount]), psramByte]

/-! ### A load behind WRITE -/

theorem leWord_one (b : Byte) : leWord [b] = b.setWidth 32 := by
  have happend : ((0 : BitVec 24) ++ b).toNat = b.toNat := by
    rw [BitVec.toNat_append]
    exact Nat.zero_or _
  have hbytes : leWord [b] = (0 : BitVec 24) ++ b := by simp [leWord, wordAt, byteAt]
  have hlt := b.isLt
  refine BitVec.eq_of_toNat_eq ?_
  rw [hbytes, BitVec.toNat_setWidth]
  omega

/-- The window's addresses are words. -/
theorem toNat_windowAddress {p : Params} (hp : ParamsOk p) {x : Nat} (hx : x < capBytes p) :
    (BitVec.ofNat 32 (spanBase p + x)).toNat = spanBase p + x := by
  obtain ⟨hlegal, haligned, -⟩ := hp
  have hcap := (capBytes_bounds hlegal).2
  have hbase : spanBase p % 2 ^ 28 = 0 := haligned
  have hword : spanBase p < 2 ^ 32 := p.windowBase.isLt
  rw [BitVec.toNat_ofNat]
  omega

/-- A served access leaves the library ready. -/
theorem LibraryReady.servedAccess {k : CpuSize} {kind : CpuKind} (h : LibraryReady s) (hm : s.mode = .memoryMapped) (x : Nat) :
    LibraryReady (servedAccess kind x k s) := by
  obtain ⟨hf, hfifo, habort, hp, hresp, hen, hdev, hbracket⟩ := h
  rcases hbracket with ⟨hmode, -⟩ | ⟨-, hopen, hccr, -⟩
  · exact absurd (hm.symm.trans hmode) nofun
  refine ⟨hf, hfifo, habort, hp, hresp, hen, hdev, .inr ⟨hm, hopen, hccr, ?_⟩⟩
  cases hwhole : decide (readAhead s.draws (sizeBytes k) ≤ Config.drawMoved s.draws) with
  | true => exact .inl (if_pos hwhole)
  | false => exact .inr ⟨if_neg (by simp [hwhole]), rfl⟩

theorem libraryReady_released {z : State} (h : Ready z) (hdev : z.devMode = .qpi) : LibraryReady (ended (released z)) := by
  obtain ⟨⟨hf, -⟩, ⟨hidle, hfifo, habort⟩, hp, hresp, -, hen, -, -⟩ := h
  exact ⟨hf, hfifo, habort, hp, hresp, hen, hdev, .inr ⟨rfl, windowOpen_opened (s := mapped z) hp.1, rfl, .inl hidle⟩⟩

/-- A load behind RELEASE gives the byte of its address. -/
theorem load_released {z : State} (h : Ready z) (hdev : z.devMode = .qpi) {x : Nat} (hx : x < capBytes z.par) :
    ∃ u, exec (.cpuLoad (BitVec.ofNat 32 (spanBase z.par + x)) .b1) (ended (released z)) = .next u
      ∧ u.cpuRdata = (psramByte z x).setWidth 32 ∧ (∀ y, psramByte u y = psramByte z y) ∧ LibraryReady u := by
  have hready := libraryReady_released h hdev
  have halt (hen : z.par.altEn = true) : (ended (released z)).abr = 0 := if_pos hen
  obtain ⟨hw, hfifo, -⟩ := LibraryReady.windowed hready rfl halt
  obtain ⟨-, ⟨hidle, -⟩, hp, -⟩ := h
  have hload := hw.mappedAccess_idle (kind := .load) (k := .b1) nofun hidle hfifo (toNat_windowAddress hp hx) hx
  refine ⟨_, (exec_of_none _ _ hw.running).trans (congrArg Host.Outcome.next hload), ?_, fun _ => rfl, ?_⟩
  · exact leWord_one (psramByte z x)
  · exact LibraryReady.servedAccess (kind := .load) (k := .b1)
      (s := emit (.cpuAccess .load (BitVec.ofNat 32 (spanBase z.par + x)) .b1 .mapped) (ended (released z))) hready rfl x

/-- Settles O60: WRITE leaves its bytes in the array and the bus mapped, and the load's frame reads the array. -/
theorem windowIsCoherentWithWrite : Obligations.WindowIsCoherentWithWrite := by
  intro s a len p i h hs hi hrange
  have hlen : len ≠ 0 := by
    rintro rfl
    exact absurd hi (Nat.not_lt_zero i)
  have hpar := acquired_par s
  have hwrite := writeIsAcquireWraRelease s a len p h hs hlen hrange
  have hready : Ready (wraDone 0x38 .four a len p (acquired s)) := (LibraryReady.acquired h hs).wraDone ..
  have hzpar : (wraDone 0x38 .four a len p (acquired s)).par = s.par := (frameDone_par ..).trans hpar
  obtain ⟨hwritten, hdev⟩ := written_wraDone (p := p) (LibraryReady.acquired_devMode h) hlen (hpar.symm ▸ hrange)
  obtain ⟨u, hload, hdata, harray, hu⟩ := load_released hready hdev (x := a.toNat + i) (by rw [hzpar]; omega)
  rw [hzpar, ← Nat.add_assoc] at hload
  refine ⟨_, u, hwrite, hload, ?_, fun x => (harray x).trans rfl, hu⟩
  rw [hdata, hwritten.stored i hi, (sameData_acquired s).bufByte]

end Sys2Proof.Machine
end

section
/-! PROOF. O51 and O52, what the other agents' harmless turns leave as it was between the micro-steps of ACQUIRE and of RELEASE
(44_access_library.md R253): they halt no operation, and change neither the array nor the buffer. -/

namespace Sys2Proof.Machine

variable {p : Params} {s s₀ : State} {P Q R : State → Prop} {K : State → Prop}

/-! ### Harmless turns -/

/-- The wire engine, a speculative access, which ends in no outcome, and the schedule keep `P`. -/
structure Steady (P : State → Prop) : Prop where
  wire : ∀ s, P s → P (wireStep s)
  spec : ∀ a k s, P s → P (mappedAccess .spec a k s) ∧ Kept s (mappedAccess .spec a k s)
  sched : ∀ rest s, P s → P { s with sched := rest }

/-- An operation that is under way with harmless turns to come, and `P`. -/
structure Along (P : State → Prop) (s : State) : Prop where
  known : P s
  running : halted s = false
  harmless : HarmlessSched s

theorem Steady.takeTurn (h : Steady P) (hs : Along P s) {x : Turn} (hx : x.harmless = true) : Along P (takeTurn x s) := by
  cases x with
  | wire =>
    have hkept := kept_wireStep s
    have hsched : (wireStep s).sched = s.sched := (congrArg State.sched hkept.still :)
    exact ⟨h.wire s hs.known, hkept.halted.trans hs.running, fun slot hm => hs.harmless slot (hsched ▸ hm)⟩
  | cpu c =>
    obtain ⟨kind, a, size⟩ := c
    obtain rfl : kind = .spec := by simpa [Turn.harmless] using hx
    obtain ⟨hp, hkept⟩ := h.spec a size s hs.known
    have hsched : (mappedAccess .spec a size s).sched = s.sched := (congrArg State.sched hkept.still :)
    exact ⟨hp, hkept.halted.trans hs.running, fun slot hm => hs.harmless slot (hsched ▸ hm)⟩
  | present | unwind => cases hx

theorem Steady.takeTurns (h : Steady P) (hs : Along P s) {xs : List Turn} (hx : ∀ x ∈ xs, x.harmless = true) :
    Along P (takeTurns xs s) := by
  induction xs generalizing s with
  | nil => exact hs
  | cons x xs ih =>
    obtain ⟨hfirst, hrest⟩ := List.forall_mem_cons.1 hx
    have hturn := h.takeTurn hs hfirst
    simp only [Machine.takeTurns, hturn.running, Bool.false_eq_true, if_false]
    exact ih hturn hrest

theorem Steady.interleave (h : Steady P) (hs : Along P s) : Along P (interleave s) := by
  unfold Machine.interleave
  split
  · exact hs
  next xs rest hsched =>
    have hall := hs.harmless
    rw [HarmlessSched, hsched] at hall
    obtain ⟨hfirst, hrest⟩ := List.forall_mem_cons.1 hall
    exact h.takeTurns ⟨h.sched rest s hs.known, hs.running, hrest⟩ hfirst

/-- The micro-step leads from `P` to `Q` and halts nothing. -/
def Takes (P Q : State → Prop) (m : Micro) : Prop := ∀ s, Along P s → Along Q (m s)

theorem takes_nil : Takes P P (runMicros []) := fun _ h => h

theorem takes_cons {m : Micro} {ms : List Micro} (hP : Steady P) (hm : Takes P Q m) (hms : Takes Q R (runMicros ms)) :
    Takes P R (runMicros (m :: ms)) := by
  intro s hs
  have hstart := hP.interleave hs
  have hstep := hm _ hstart
  simp only [runMicros, hstart.running, hstep.running, Bool.false_eq_true, if_false]
  exact hms _ hstep

/-- A check that passes. -/
theorem takes_check {m : Micro} (h : ∀ s, P s → m s = s) : Takes P P m := fun s hs => (h s hs.known).symm ▸ hs

/-! ### The array, the buffer, and the command port -/

/-- The array, the buffer, and the outputs of the command and diagnostic ports are those of `s₀`. -/
structure Untouched (s₀ s : State) : Prop where
  data : SameData s₀ s
  opDone : s.opDone = s₀.opDone
  diagValid : s.diagValid = s₀.diagValid

/-- Behind a closed window. -/
theorem steady_of_closed (hwire : ∀ s, P s → P (wireStep s)) (hclosed : ∀ s, P s → windowClosed s = true)
    (htrace : ∀ es sc s, P s → P { s with trace := es, sched := sc }) : Steady P where
  wire := hwire
  spec a k s h := by
    obtain ⟨v, hv⟩ := mappedAccess_spec_denied (hclosed s h) a k
    exact hv ▸ ⟨htrace _ s.sched s h, kept_emit _ s⟩
  sched rest s h := htrace s.trace rest s h

theorem steady_vacant (hK : Untraced K) : Steady fun s => Vacant p .qpi K s ∧ Untouched s₀ s :=
  steady_of_closed (fun s h => (wireStep_still s h.1.shut.abort (.inr h.1.idle)).symm ▸ h) (fun _ h => h.1.shut.closed)
    fun es sc s ⟨h, hu⟩ =>
      ⟨{ h with shut := ⟨h.shut.par, h.shut.closed, h.shut.abort⟩, known := hK es sc s h.known }, { hu with data := { hu.data with } }⟩

/-! ### Between library operations -/

theorem Untouched.of_kept {t : State} (hu : Untouched s₀ s) (hk : Kept s t) (hpsram : t.psram = s.psram)
    (hepoch : t.psramEpoch = s.psramEpoch) : Untouched s₀ t where
  data := hu.data.trans ⟨hpsram, hepoch, (congrArg State.buf hk.still :)⟩
  opDone := (congrArg State.opDone hk.still :).trans hu.opDone
  diagValid := (congrArg State.diagValid hk.still :).trans hu.diagValid

theorem endFrame_array (s : State) : (endFrame s).psram = s.psram ∧ (endFrame s).psramEpoch = s.psramEpoch := by
  rw [endFrame, refreshBusy_eq]
  exact ⟨rfl, rfl⟩

/-- The frame that reads ahead does not write the array. -/
theorem Resting.wireStep_array (h : Resting p s) :
    (Machine.wireStep s).psram = s.psram ∧ (Machine.wireStep s).psramEpoch = s.psramEpoch := by
  rcases h.wire with hidle | ⟨hdata, -, hc⟩
  · rw [wireStep_still s h.abort (.inr hidle)]
    exact ⟨rfl, rfl⟩
  cases hr : s.par.responsive with
  | false =>
    rw [wireStep_still s h.abort (.inl hr)]
    exact ⟨rfl, rfl⟩
  | true =>
    have hmap : ccrMapped s.ccr = true := by simp [hc, tmwOfMmap, ccrMapped]
    rw [wireStep_eq h.abort hr, hdata, phaseStep, shape_mmap s hc, dataStep]
    simp only [hmap, if_true, wireMapped]
    split
    · exact ⟨rfl, rfl⟩
    · exact endFrame_array _

theorem finishMapped_array (s : State) : (finishMapped s).psram = s.psram ∧ (finishMapped s).psramEpoch = s.psramEpoch := by
  unfold finishMapped
  split
  · exact ⟨rfl, rfl⟩
  · exact endFrame_array _

/-- Nor does the frame of an access. -/
theorem Resting.serveMapped_array (h : Resting p s) (hc : s.ccr = tmwOfMmap p) (kind : CpuKind) (a : Word) (k : CpuSize) :
    (Machine.serveMapped kind a k s).psram = s.psram ∧ (Machine.serveMapped kind a k s).psramEpoch = s.psramEpoch := by
  have hdata : (beginMapped a (sizeBytes k) s).shape.data.isNone = false := by
    rw [shape_mmap (beginMapped a (sizeBytes k) s) hc]
    rfl
  obtain ⟨x, hans⟩ := answerTo_mmap (s := beginMapped a (sizeBytes k) s) h.par h.dev hc
  have hans' : answerTo s (beginMapped a (sizeBytes k) s).shape = .readMem x := hans
  unfold Machine.serveMapped
  simp only [hdata, hans', Bool.false_eq_true, if_false]
  exact ⟨rfl, rfl⟩

/-- A speculative access between library operations is recorded only, or served (44_access_library.md R250). -/
theorem Resting.mappedAccess_spec (h : Resting p s) (hr : p.responsive = true) (a : Word) (k : CpuSize) :
    (∃ v, Machine.mappedAccess .spec a k s = emit (.cpuAccess .spec a k v) s)
      ∨ s.ccr = tmwOfMmap p ∧ Machine.mappedAccess .spec a k s
        = Machine.serveMapped .spec a k (emit (.cpuAccess .spec a k .mapped) (Machine.finishMapped s)) := by
  rcases h.guarded with hclosed | hc
  · exact .inl (mappedAccess_spec_denied hclosed a k)
  by_cases hspan : Spanned s a k
  · by_cases hallowed : allowed s a.toNat = true ∧ allowed s (a.toNat + sizeBytes k - 1) = true
    · have hmap : ccrMapped s.ccr = true := by simp [hc, tmwOfMmap, ccrMapped]
      have hpermitted : Permitted s a k := ⟨hspan, hallowed.1, hallowed.2⟩
      refine .inr ⟨hc, ?_⟩
      rw [hpermitted.mappedAccess, if_neg (by simp [h.enabled, hmap]), if_neg (by simp), if_neg (by simp [h.par, hr])]
    · exact .inl ⟨_, mappedAccess_refused hspan hallowed⟩
  · exact .inl ⟨_, mappedAccess_outside hspan⟩

theorem steady_resting (hr : p.responsive = true) : Steady fun s => Resting p s ∧ Untouched s₀ s where
  wire s := fun ⟨h, hu⟩ => ⟨h.wireStep, hu.of_kept (kept_wireStep s) h.wireStep_array.1 h.wireStep_array.2⟩
  spec a k s := fun ⟨h, hu⟩ => by
    have hemit (e : Event) {t : State} (ht : Resting p t) : Resting p (emit e t) := { ht with }
    rcases h.mappedAccess_spec hr a k with ⟨v, he⟩ | ⟨hc, he⟩
    · rw [he]
      exact ⟨⟨hemit _ h, hu.of_kept (kept_emit _ s) rfl rfl⟩, kept_emit _ s⟩
    · have hbegin : Resting p (emit (.cpuAccess .spec a k .mapped) (finishMapped s)) := hemit _ h.finishMapped
      have hword : (emit (.cpuAccess .spec a k .mapped) (finishMapped s)).ccr = tmwOfMmap p := (kept_finishMapped s).ccr.trans hc
      have hkept := (kept_finishMapped s).trans ((kept_emit (.cpuAccess .spec a k .mapped) _).trans (kept_serveMapped .spec a k _))
      obtain ⟨hpsram, hepoch⟩ := hbegin.serveMapped_array hword .spec a k
      obtain ⟨hpsram', hepoch'⟩ := finishMapped_array s
      rw [he]
      exact ⟨⟨hbegin.serveMapped hword .spec a k, hu.of_kept hkept (hpsram.trans hpsram') (hepoch.trans hepoch')⟩, hkept⟩
  sched _ _ := fun ⟨h, hu⟩ => ⟨{ h with }, { hu with data := { hu.data with } }⟩

/-- What the wire engine and a speculative access leave as it was may be known besides. -/
theorem Steady.and_kept (h : Steady P) (hk : ∀ s t, Kept s t → Q s → Q t)
    (hs : ∀ rest s, Q s → Q { s with sched := rest }) : Steady fun s => P s ∧ Q s where
  wire s := fun ⟨hp, hq⟩ => ⟨h.wire s hp, hk _ _ (kept_wireStep s) hq⟩
  spec a k s := fun ⟨hp, hq⟩ =>
    have ⟨hp', hkept⟩ := h.spec a k s hp
    ⟨⟨hp', hk _ _ hkept hq⟩, hkept⟩
  sched rest s := fun ⟨hp, hq⟩ => ⟨h.sched rest s hp, hs rest s hq⟩

end Sys2Proof.Machine
end

section
/-! PROOF. O51 and O52, ACQUIRE and RELEASE under harmless turns (43_bus_mode_arbitration.md R224, R226): both run to their end. -/

namespace Sys2Proof.Machine

variable {p : Params} {s s₀ : State} {K : State → Prop}

/-! ### ACQUIRE -/

theorem crEn_setAbort (cr : Word) : crEn (crSetAbort cr) = crEn cr := by
  simp [crEn, crSetAbort]

theorem crEn_clearAbort (cr : Word) : crEn (crClearAbort cr) = crEn cr := by
  simp [crEn, crClearAbort]

/-- Between library operations, the array and the buffer those of `s₀`. -/
def Rested (p : Params) (s₀ s : State) : Prop := Resting p s ∧ Untouched s₀ s

theorem steady_rested (hr : p.responsive = true) : Steady (Rested p s₀) := steady_resting hr

theorem steady_rested_mode (hr : p.responsive = true) : Steady fun s => Rested p s₀ s ∧ s.mode ≠ .uninitialized :=
  (steady_rested hr).and_kept (fun _ _ hk hm => (congrArg State.mode hk.still :).symm ▸ hm) fun _ _ => id

theorem steady_rested_closed (hr : p.responsive = true) : Steady fun s => Rested p s₀ s ∧ windowClosed s = true :=
  (steady_rested hr).and_kept (fun _ _ hk hc => hk.windowClosed.trans hc) fun _ _ => id

/-- Behind ACQUIRE's read of `SR.BUSY`. -/
structure Recovers (p : Params) (s₀ s : State) : Prop where
  recovering : Recovering p s
  enabled : crEn s.cr = true
  untouched : Untouched s₀ s

/-- The bus is taken, the array and the buffer those of `s₀`. -/
def Taken (p : Params) (K : State → Prop) (s₀ s : State) : Prop := Vacant p .qpi K s ∧ Untouched s₀ s

theorem steady_taken (hK : Untraced K) : Steady (Taken p K s₀) := steady_vacant hK

/-- An abort that is pending completes at the next step of the wire engine (10_state.md R45). -/
theorem Recovers.wireStep_abort (h : Recovers p s₀ s) (ha : crAbort s.cr = true) : Taken p (fun s => crEn s.cr = true) s₀ (wireStep s) := by
  rw [Machine.wireStep_abort s ha, completeAbort_eq]
  exact ⟨{ shut := ⟨h.recovering.par, h.recovering.closed, crAbort_clear _⟩, dev := h.recovering.dev, free := rfl, idle := rfl, empty := rfl
           known := (crEn_clearAbort _).trans h.enabled }, { h.untouched with data := { h.untouched.data with } }⟩

theorem Recovers.taken (h : Recovers p s₀ s) (ha : crAbort s.cr = false) : Taken p (fun s => crEn s.cr = true) s₀ s := by
  rcases h.recovering.stands with hpending | ⟨-, hbusy, hidle, hempty⟩
  · exact absurd (ha.symm.trans hpending) nofun
  · exact ⟨⟨⟨h.recovering.par, h.recovering.closed, ha⟩, h.recovering.dev, hbusy, hidle, hempty, h.enabled⟩, h.untouched⟩

theorem Taken.recovers (h : Taken p (fun s => crEn s.cr = true) s₀ s) : Recovers p s₀ s :=
  have ⟨hv, hu⟩ := h
  ⟨⟨hv.shut.par, hv.shut.closed, hv.dev, .inr ⟨hv.shut.abort, hv.free, hv.idle, hv.empty⟩⟩, hv.known, hu⟩

theorem steady_recovers : Steady (Recovers p s₀) :=
  steady_of_closed
    (fun s h => by
      cases ha : crAbort s.cr with
      | true => exact (h.wireStep_abort ha).recovers
      | false =>
        have ht := h.taken ha
        exact (wireStep_still s ha (.inr ht.1.idle)).symm ▸ h)
    (fun _ h => h.recovering.closed)
    fun _ _ _ h => ⟨{ h.recovering with }, h.enabled, { h.untouched with data := { h.untouched.data with } }⟩

theorem takes_denyStep :
    Takes (fun s => Rested p s₀ s ∧ s.mode ≠ .uninitialized) (fun s => Rested p s₀ s ∧ windowClosed s = true) denyStep := by
  intro s ⟨⟨⟨h, hu⟩, _⟩, hrun, hs⟩
  rw [denyStep_eq_closed]
  exact ⟨⟨⟨{ h with guarded := .inl (windowClosed_closed s) }, { hu with data := { hu.data with } }⟩, windowClosed_closed s⟩, hrun, hs⟩

theorem takes_abortIfBusy (hr : p.responsive = true) :
    Takes (fun s => Rested p s₀ s ∧ windowClosed s = true) (Recovers p s₀) abortIfBusy := by
  intro s ⟨⟨⟨h, hu⟩, hclosed⟩, hrun, hs⟩
  have hu' : Untouched s₀ (busyRead s) := { hu with data := { hu.data with } }
  simp only [abortIfBusy, readBusy_eq]
  cases hb : busyReads s with
  | true =>
    obtain ⟨⟨⟨h', hu'⟩, hclosed'⟩, hrun', hs'⟩ :=
      (steady_rested_closed (s₀ := s₀) hr).interleave (s := busyRead s) ⟨⟨⟨{ h with }, hu'⟩, hclosed⟩, hrun, hs⟩
    simp only [hrun', if_true, Bool.false_eq_true, if_false]
    exact ⟨⟨{ par := h'.par, closed := hclosed', dev := h'.dev, stands := .inl (crAbort_set _) }, (crEn_setAbort _).trans h'.enabled,
      { hu' with data := { hu'.data with } }⟩, hrun', hs'⟩
  | false =>
    have hidle : s.ph = .idle := by
      rcases h.wire with hidle | ⟨hdata, hdrawn, -⟩
      · exact hidle
      · simp [busyReads, hdata, hdrawn] at hb
    simp only [Bool.false_eq_true, if_false]
    exact ⟨⟨{ par := h.par, closed := hclosed, dev := h.dev, stands := .inr ⟨h.abort, rfl, hidle, h.empty⟩ }, h.enabled,
      { hu with data := { hu.data with } }⟩, hrun, hs⟩

/-- A wait whose condition holds where the other agents step first. -/
theorem Steady.waitLoop_of_cond {P : State → Prop} (h : Steady P) {cond : State → Bool} (hc : ∀ s, P s → cond s = true) (w : Wait) (n : Nat)
    (hs : Along P s) : Along P (waitLoop cond w n s) := by
  have hi := h.interleave hs
  cases n <;> simpa only [waitLoop, hi.running, hc _ hi.known, Bool.false_eq_true, if_false, if_true] using hi

theorem takes_waitAbort : Takes (Recovers p s₀) (Taken p (fun s => crEn s.cr = true) s₀) waitAbort := by
  intro s hs
  have hsteady : Steady (Taken p (fun s => crEn s.cr = true) s₀) := steady_taken fun _ _ _ => id
  have hi := steady_recovers.interleave hs
  cases ha : crAbort (interleave s).cr with
  | false =>
    have hdone : abortDone (interleave s) = true := by simp [abortDone, ha]
    rw [waitAbort, waitLoop]
    simp only [hi.running, hdone, Bool.false_eq_true, if_false, if_true]
    exact ⟨hi.known.taken ha, hi.running, hi.harmless⟩
  | true =>
    have hpending : abortDone (interleave s) = false := by simp [abortDone, ha]
    have hstep := steady_recovers.takeTurn hi (x := .wire) rfl
    rw [waitAbort, waitLoop]
    simp only [hi.running, hpending, Bool.false_eq_true, if_false]
    exact hsteady.waitLoop_of_cond (fun u hu => by simp [abortDone, hu.1.shut.abort]) _ 0
      ⟨hi.known.wireStep_abort ha, hstep.running, hstep.harmless⟩

theorem takes_setMode_acquired : Takes (Taken p (fun s => crEn s.cr = true) s₀) (Taken p Cleared s₀) (setMode .indirectAccess) :=
  fun _ ⟨⟨h, hu⟩, hrun, hs⟩ =>
    ⟨⟨{ h with shut := { h.shut with }, known := ⟨rfl, h.known, h.shut.closed, h.free⟩ }, { hu with data := { hu.data with } }⟩, hrun, hs⟩

theorem takes_acquire (hr : p.responsive = true) :
    Takes (fun s => Rested p s₀ s ∧ s.mode ≠ .uninitialized) (Taken p Cleared s₀) (runMicros acquireSteps) :=
  takes_cons (steady_rested_mode hr) (takes_check fun _ h => if_neg (by simpa using h.2)) <|
    takes_cons (steady_rested_mode hr) takes_denyStep <| takes_cons (steady_rested_closed hr) (takes_abortIfBusy hr) <|
    takes_cons steady_recovers takes_waitAbort <| takes_cons (steady_taken fun _ _ _ => id) takes_setMode_acquired takes_nil

/-! ### RELEASE -/

theorem untraced_cleared : Untraced Cleared := fun _ _ _ h => ⟨h.mode, h.enabled, h.closed, h.free⟩

theorem takes_writeAlt (on : Bool) : Takes (Taken p Cleared s₀) (Taken p Cleared s₀) (writeAlt on) := by
  intro s ⟨⟨h, hu⟩, hrun, hs⟩
  rw [writeAlt_eq]
  exact ⟨⟨{ h with shut := { h.shut with }, known := { h.known with } }, { hu with data := { hu.data with } }⟩, hrun, hs⟩

theorem takes_writeTmw_mmap : Takes (Taken p Cleared s₀) (fun s => Rested p s₀ s ∧ s.ccr = tmwOfMmap p) (writeTmw (tmwOfMmap p)) := by
  intro s ⟨⟨h, hu⟩, hrun, hs⟩
  rw [writeTmw_of_free _ (fault_of_not_halted hrun) h.free, modeWordWritten_of_not_indirect (ccrIndirect_mmap p) h.free]
  exact ⟨⟨⟨{ par := h.shut.par, abort := h.shut.abort, enabled := h.known.enabled, empty := h.empty, dev := h.dev, guarded := .inr rfl
             wire := .inl h.idle }, { hu with data := { hu.data with } }⟩, rfl⟩, hrun, hs⟩

theorem steady_mapped (hr : p.responsive = true) : Steady fun s => Rested p s₀ s ∧ s.ccr = tmwOfMmap p :=
  (steady_rested hr).and_kept (fun _ _ hk hc => hk.ccr.trans hc) fun _ _ => id

theorem steady_mappedOpen (hr : p.responsive = true) : Steady fun s => (Rested p s₀ s ∧ s.ccr = tmwOfMmap p) ∧ windowOpen s = true :=
  (steady_mapped hr).and_kept (fun _ _ hk ho => hk.windowOpen.trans ho) fun _ _ => id

theorem takes_allowStep (hp : paramsLegal p = true) : Takes (fun s => Rested p s₀ s ∧ s.ccr = tmwOfMmap p)
    (fun s => (Rested p s₀ s ∧ s.ccr = tmwOfMmap p) ∧ windowOpen s = true) allowStep := by
  intro s ⟨⟨⟨h, hu⟩, hc⟩, hrun, hs⟩
  rw [allowStep_eq_opened]
  exact ⟨⟨⟨⟨{ h with guarded := .inr hc }, { hu with data := { hu.data with } }⟩, hc⟩, windowOpen_opened (h.par ▸ hp)⟩, hrun, hs⟩

theorem takes_setMode_released : Takes (fun s => (Rested p s₀ s ∧ s.ccr = tmwOfMmap p) ∧ windowOpen s = true)
    (fun s => Released p s ∧ Untouched s₀ s) (setMode .memoryMapped) :=
  fun _ ⟨⟨⟨⟨h, hu⟩, hc⟩, ho⟩, hrun, hs⟩ =>
    ⟨⟨{ resting := { h with }, word := hc, opened := ho, mode := rfl }, { hu with data := { hu.data with } }⟩, hrun, hs⟩

theorem takes_release (hr : p.responsive = true) (hp : paramsLegal p = true) :
    Takes (Taken p Cleared s₀) (fun s => Released p s ∧ Untouched s₀ s) (runMicros (releaseSteps p)) :=
  takes_cons (steady_taken untraced_cleared) (takes_check fun _ h => if_pos (by simpa using h.1.known.mode)) <|
    takes_cons (steady_taken untraced_cleared) (takes_check fun _ h => h.1.known.mmapPre) <|
    takes_cons (steady_taken untraced_cleared) (takes_writeAlt _) <| takes_cons (steady_taken untraced_cleared) takes_writeTmw_mmap <|
    takes_cons (steady_mapped hr) (takes_allowStep hp) <| takes_cons (steady_mappedOpen hr) takes_setMode_released takes_nil

end Sys2Proof.Machine
end

section
/-! PROOF. O51 and O52: between ACQUIRE and RELEASE the window is closed, so the primitive runs as if it were alone (O17). O53: what WRITE
stored READ gives back (44_access_library.md R247). -/

namespace Sys2Proof.Machine

variable {p : Params} {s s₀ t : State} {ms : List Micro}

/-! ### The primitive -/

/-- At the start of an operation the ports show none that has ended. -/
theorem beginOp_of_fresh (hd : s.opDone = false) (hv : s.diagValid = false) (hrun : halted s = false) : beginOp s = s := by
  have hwritten (d v u : Bool) (hd : d = s.opDone) (hv : v = s.diagValid) (hu : u = s.unwound) :
      { s with opDone := d, diagValid := v, unwound := u } = s := by
    rw [hd, hv, hu]
  exact hwritten _ _ _ hd.symm hv.symm ((halted_eq_false s).1 hrun).2.symm

/-- No other agent has a turn to come. -/
def undisturbed (s : State) : State := { s with sched := [] }

theorem Taken.ready (h : Along (Taken p Cleared s₀) t) (hp : ParamsOk p) (hr : p.responsive = true) : Ready (undisturbed t) := by
  obtain ⟨⟨hv, -⟩, hrun, -⟩ := h
  have hpar := hv.shut.par
  have hc := hv.known
  exact ⟨⟨fault_of_not_halted hrun, rfl⟩, ⟨hv.idle, hv.empty, hv.shut.abort⟩, hpar.symm ▸ hp, (congrArg Params.responsive hpar).trans hr,
    hc.mode, hc.enabled, hc.closed, hv.free⟩

theorem trails_undisturbed (h : Live (undisturbed s)) (hc : windowClosed s = true) (hs : HarmlessSched s) : Trails (undisturbed s) s :=
  ⟨0, h, hc, hs, rfl⟩

/-- A primitive with its micro-steps, and what it makes of a state that is ready for it. -/
structure Performs (p : Params) (j : Instr) (ms : List Micro) (done : State → State) : Prop where
  work : workOf p j = .operation ms
  escorts : EscortsPrimitive ms
  ends : ∀ x, Ready x → x.par = p → exec j x = .next (ended (done x))
  ready : ∀ x, Ready x → Ready (done x)
  par : ∀ x, (done x).par = x.par
  dev : ∀ x, x.par = p → x.devMode = .qpi → (done x).devMode = .qpi

/-- What the run with turns and the run alone have in common where a primitive has ended. -/
theorem taken_of_hush {z : State} (hz : Ready z) (hpar : z.par = p) (hdev : z.devMode = .qpi) {d : Bool}
    (h : hush.on t = hush.on (underway d z)) : Taken p Cleared (underway d z) t := by
  have hc := hz.cleared
  obtain ⟨-, ⟨hidle, hempty, habort⟩, -⟩ := hz
  rw [eq_of_hush h]
  exact ⟨⟨⟨hpar, hc.closed, habort⟩, hdev, hc.free, hidle, hempty, ⟨hc.mode, hc.enabled, hc.closed, hc.free⟩⟩, ⟨rfl, rfl, rfl⟩, rfl, rfl⟩

/-- A primitive where the bus has been taken. -/
theorem Performs.along {j : Instr} {done : State → State} (h : Performs p j ms done) (ht : Along (Taken p Cleared s₀) t)
    (hd : s₀.opDone = false) (hdiag : s₀.diagValid = false) (hp : ParamsOk p) (hr : p.responsive = true) :
    ∃ d, Along (Taken p Cleared (underway d (done (undisturbed t)))) (runMicros ms t) := by
  have hready := Taken.ready ht hp hr
  obtain ⟨⟨hv, hu⟩, hrun, hs⟩ := ht
  have hpar : (undisturbed t).par = p := hv.shut.par
  have hbegin : beginOp (undisturbed t) = undisturbed t := beginOp_of_fresh (hu.opDone.trans hd) (hu.diagValid.trans hdiag) hrun
  obtain ⟨d, hend⟩ := runMicros_of_exec (congrArg (workOf · j) hpar |>.trans h.work) (h.ends _ hready hpar)
  rw [hbegin] at hend
  have hz := h.ready _ hready
  have halone : Alone (underway d (done (undisturbed t))) := Quiet.alone_underway hz.1 d
  have htrails : Trails (undisturbed t) t :=
    trails_undisturbed ⟨(congrArg Params.responsive hpar).trans hr, hv.shut.abort, rfl, hrun⟩ hv.shut.closed hs
  obtain ⟨hlast, hidle⟩ := h.escorts _ _ htrails ⟨hv.idle, hv.empty, trivial⟩ (hend ▸ halone.running)
  have hsame := hend ▸ hlast.hush_eq hidle
  obtain ⟨k, hk⟩ := hlast
  exact ⟨d, taken_of_hush hz ((h.par _).trans hpar) (h.dev _ hpar hv.dev) hsame, hk.running, hk.harmless⟩

theorem performs_rda (p : Params) {a len : Word} (hlen : len ≠ 0) (hrange : a.toNat + len.toNat ≤ capBytes p) (q : Word) :
    Performs p (.rda 0xEB .four a len q) (rdaSteps p 0xEB .four a len q) (rdaDone 0xEB .four a len q) where
  work := rfl
  escorts := escorts_rda p 0xEB .four a len q
  ends x hx _ := rdaFillsTheBuffer x 0xEB .four a len q hx hlen nofun
  ready _ hx := hx.rdaDone ..
  par _ := frameDone_par ..
  dev _ hp hm := (fetched_rdaDone hm (hp.symm ▸ hrange)).2

theorem performs_wra (p : Params) {a len : Word} (hlen : len ≠ 0) (hrange : a.toNat + len.toNat ≤ capBytes p) (q : Word) :
    Performs p (.wra 0x38 .four a len q) (wraSteps p 0x38 .four a len q) (wraDone 0x38 .four a len q) where
  work := rfl
  escorts := escorts_wra p 0x38 .four a len q
  ends x hx _ := wraSendsTheBuffer x 0x38 .four a len q hx
  ready _ hx := hx.wraDone ..
  par _ := frameDone_par ..
  dev _ hp hm := (written_wraDone hm hlen (hp.symm ▸ hrange)).2

/-! ### READ and WRITE -/

/-- What READ and WRITE leave for the next call. -/
structure Returned (p : Params) (s : State) : Prop where
  par : s.par = p
  opDone : s.opDone = true
  library : LibraryReady s
  mode : s.mode = .memoryMapped
  harmless : HarmlessSched s

/-- A library operation around its primitive. -/
theorem Performs.access {i j : Instr} {done : State → State} {r : MisuseReason} {a len : Word} (h : Performs s.par j ms done)
    (hs : LibraryReady s) (hsched : HarmlessSched s) (hrange : a.toNat + len.toNat ≤ capBytes s.par)
    (hi : workOf s.par i = .operation (accessPre r a len :: acquireSteps ++ ms ++ releaseSteps s.par)) :
    ∃ x t, exec i s = .next t ∧ Returned s.par t ∧ x.par = s.par ∧ x.devMode = .qpi ∧ SameData s x ∧ SameData (done x) t := by
  have hinit := LibraryReady.initialized hs
  have hrest := LibraryReady.resting hs
  obtain ⟨hf, -, -, hp, hr, -⟩ := hs
  have hbegin : Along (fun u => Rested s.par (beginOp s) u ∧ u.mode ≠ .uninitialized) (beginOp s) :=
    ⟨⟨⟨{ hrest with }, ⟨rfl, rfl, rfl⟩, rfl, rfl⟩, hinit⟩, (halted_eq_false _).2 ⟨hf, rfl⟩, hsched⟩
  have hpre : Takes (fun u => Rested s.par (beginOp s) u ∧ u.mode ≠ .uninitialized)
      (fun u => Rested s.par (beginOp s) u ∧ u.mode ≠ .uninitialized) (accessPre r a len) := by
    refine takes_check fun u ⟨⟨hu, _⟩, hm⟩ => ?_
    rw [accessPre, if_neg (by simpa using hm), hu.par]
    exact if_neg (Nat.not_lt.2 hrange)
  obtain ⟨x, hx⟩ : ∃ x, runMicros (accessPre r a len :: acquireSteps) (beginOp s) = x := ⟨_, rfl⟩
  have hacquired : Along (Taken s.par Cleared (beginOp s)) x := hx ▸ takes_cons (steady_rested_mode hr) hpre (takes_acquire hr) _ hbegin
  obtain ⟨d, hdone⟩ := h.along hacquired rfl rfl hp hr
  obtain ⟨⟨hreleased, hu⟩, hrun, hharmless⟩ := takes_release hr hp.1 _ hdone
  have hmid : runMicros (accessPre r a len :: acquireSteps ++ ms) (beginOp s) = runMicros ms x := by
    rw [runMicros_append _ _ _ hbegin.running, hx, if_neg (ne_true_of_eq_false hacquired.running)]
  have hend : exec i s = .next { runMicros (releaseSteps s.par) (runMicros ms x) with opDone := true } := by
    rw [exec_of_none i s hf, hi, Work.after, runMicros_append _ _ _ hbegin.running, hmid, if_neg (ne_true_of_eq_false hdone.running),
      endOp_of_not_halted _ hrun]
  have hlibrary := hreleased.libraryReady hp hr (fault_of_not_halted hrun)
  exact ⟨undisturbed x, _, hend, ⟨hreleased.resting.par, rfl, hlibrary, hreleased.mode, hharmless⟩, hacquired.known.1.shut.par,
    hacquired.known.1.dev, { hacquired.known.2.data with }, { hu.data with }⟩

theorem workOf_read (p : Params) (a q : Word) {len : Word} (hlen : len ≠ 0) : workOf p (.read a len q)
    = .operation (accessPre .readBeforeInit a len :: acquireSteps ++ rdaSteps p 0xEB .four a len q ++ releaseSteps p) :=
  congrArg Work.operation (if_neg (by simpa using hlen))

theorem workOf_write (p : Params) (a q : Word) {len : Word} (hlen : len ≠ 0) : workOf p (.write a len q)
    = .operation (accessPre .writeBeforeInit a len :: acquireSteps ++ wraSteps p 0x38 .four a len q ++ releaseSteps p) :=
  congrArg Work.operation (if_neg (by simpa using hlen))

section Access

variable {a len : Word} (h : LibraryReady s) (hs : HarmlessSched s) (hlen : len ≠ 0) (hrange : a.toNat + len.toNat ≤ capBytes s.par)
include h hs hlen hrange

theorem exec_read (q : Word) : ∃ t, exec (.read a len q) s = .next t ∧ Returned s.par t ∧ Fetched s t a.toNat q.toNat len.toNat := by
  obtain ⟨x, t, he, ht, hpar, hdev, hbefore, hafter⟩ := (performs_rda s.par hlen hrange q).access h hs hrange (workOf_read s.par a q hlen)
  exact ⟨t, he, ht, (fetched_rdaDone hdev (hpar.symm ▸ hrange)).1.transport hbefore hafter⟩

theorem exec_write (q : Word) : ∃ t, exec (.write a len q) s = .next t ∧ Returned s.par t ∧ Written s t a.toNat q.toNat len.toNat := by
  obtain ⟨x, t, he, ht, hpar, hdev, hbefore, hafter⟩ := (performs_wra s.par hlen hrange q).access h hs hrange (workOf_write s.par a q hlen)
  exact ⟨t, he, ht, (written_wraDone hdev hlen (hpar.symm ▸ hrange)).1.transport hbefore hafter⟩

end Access

/-- Settles O51: the bus is taken and released whatever the turns bring, and what RDA reads in between is the array. -/
theorem readFillsTheBufferUnderSpeculation : Obligations.ReadFillsTheBufferUnderSpeculation := by
  intro s a len p h hs hlen hrange
  obtain ⟨t, he, ht, hdata⟩ := exec_read h hs hlen hrange p
  exact ⟨t, he, ht.opDone, ht.library, ht.mode, hdata.filled, hdata.outside, hdata.array⟩

/-- Settles O52: the bus is taken and released whatever the turns bring, and what WRA stores in between stays. -/
theorem writeStoresTheBufferUnderSpeculation : Obligations.WriteStoresTheBufferUnderSpeculation := by
  intro s a len p h hs hlen hrange
  obtain ⟨t, he, ht, hdata⟩ := exec_write h hs hlen hrange p
  exact ⟨t, he, ht.opDone, ht.library, ht.mode, hdata.stored, hdata.outside, hdata.buffer⟩

/-- Settles O53: what WRITE leaves is a state that READ may be called in, its turns to come as harmless. -/
theorem writeThenReadRoundTrip : Obligations.WriteThenReadRoundTrip := by
  intro s a len p q h hs hrange
  by_cases hlen : len = 0
  · subst hlen
    obtain ⟨hf, -⟩ := h
    exact ⟨ended s, ended (ended s), (zeroLengthIsANoOp s a p hf).2, (zeroLengthIsANoOp (ended s) a q hf).1,
      fun i hi => absurd hi (Nat.not_lt_zero i)⟩
  · obtain ⟨t, hwrite, ht, hstored⟩ := exec_write h hs hlen hrange p
    obtain ⟨u, hread, -, hfetched⟩ := exec_read ht.library ht.harmless hlen (ht.par.symm ▸ hrange) q
    exact ⟨t, u, hwrite, hread, fun i hi => (hfetched.filled i hi).trans (hstored.stored i hi)⟩

end Sys2Proof.Machine
end

section
/-! PROOF. O47 and O48, INIT when no other agent steps (44_access_library.md R241, R242): INITIALIZE, RDID and CMD run one after the
other. -/

namespace Sys2Proof.Machine

variable {s : State}

/-! ### INITIALIZE, RDID and CMD in one operation -/

/-- The bus as INITIALIZE leaves it. -/
def initialized (s : State) : State := modeSet .indirectAccess (closed (configured s))

theorem Alone.runMicros_initialiseSteps (h : Alone s) (hp : paramsLegal s.par = true) (ms : List Micro) :
    runMicros (initialiseSteps s.par ++ ms) s = runMicros ms (initialized s) := by
  have hconf : Alone (configured s) := ⟨h.sched, h.running⟩
  have hclosed : Alone (closed (configured s)) := ⟨h.sched, h.running⟩
  have hend : Alone (initialized s) := ⟨h.sched, h.running⟩
  rw [initialiseSteps, List.append_assoc, runMicros_append _ _ _ h.running, runMicros_configureSteps s h.sched h.running hp,
    if_neg (ne_true_of_eq_false hconf.running), List.cons_append, List.singleton_append,
    hconf.runMicros_cons (denyStep_eq_closed _) hclosed,
    hclosed.runMicros_cons (m := setMode .indirectAccess) (t := initialized s) rfl hend]

theorem crAbort_crWord (p : Params) : crAbort (crWord p) = false := (crPack_legal _ _ _).2

theorem crEn_crWord (p : Params) : crEn (crWord p) = true := by
  simp only [crEn, crWord, crPack, BitVec.getLsbD_append]
  simp

theorem ready_initialized (hq : Quiet s) (hp : ParamsOk s.par) (hr : s.par.responsive = true) : Ready (initialized s) :=
  ⟨hq, ⟨rfl, rfl, crAbort_crWord s.par⟩, hp, hr, rfl, crEn_crWord s.par, windowClosed_closed (configured s), rfl⟩

/-- CMD as a part of an operation, whatever the operation's ports show. -/
theorem Ready.runMicros_cmdSteps (h : Ready s) (hrun : halted s = false) (o : Byte) (n : Lines) :
    runMicros (cmdSteps o n) s = cmdDone o n s := by
  let r : State := { s with ccr := tmwOfCmd o n }
  have hc := h.cleared
  obtain ⟨⟨hf, hs⟩, ⟨-, hempty, habort⟩, -, hresp, -⟩ := h
  have halone : Alone s := ⟨hs, hrun⟩
  have hclear : Alone (clearTcf s) := ⟨hs, hrun⟩
  have hshape : r.shape = cmdFrame o n := shape_cmd s o n
  have hout : Outbound (emit (.tmwWrite r.ccr) r) [] :=
    ⟨by simp [r, ccrMapped, tmwOfCmd], fun _ => (congrArg FrameShape.data hshape :), fun hne => absurd rfl hne⟩
  have hlive : Live (onWire (emit (.tmwWrite r.ccr) r) r .instr r.io [] []) := ⟨hresp, habort, hs, hrun⟩
  have hstart : writeTmw (tmwOfCmd o n) (clearTcf s) = onWire (emit (.tmwWrite r.ccr) r) r .instr r.io [] [] := by
    have hnow : (ccrIndirect (tmwOfCmd o n) && ccrAl (tmwOfCmd o n) == 0b00) = true := by simp [tmwOfCmd, ccrIndirect]
    rw [writeTmw_of_free _ (s := clearTcf s) hf hc.free]
    simp only [modeWordWritten, hnow, if_true]
    rw [show (clearTcf s).fifo = [] from hempty]
    rfl
  rw [cmdSteps, halone.runMicros_cons hc.commonPre halone, halone.runMicros_cons rfl hclear,
    hclear.runMicros_cons hstart hlive.alone, hout.transfer hlive (.instr r.io), cmdDone, frameDone_eq_graft]
  exact congrArg (fun f =>
    transferred [] (graft (deviceAfter f [] r) (emit (.frame (frameRecord f false false [])) (emit (.tmwWrite r.ccr) r))))
    hshape

/-- What the ports show does not matter to a frame. -/
theorem frameDone_opDone (f : FrameShape) (moved toDevice : List Byte) (d : Bool) (r : State) :
    frameDone f moved toDevice { r with opDone := d } = { frameDone f moved toDevice r with opDone := d } := by
  have hdevice : deviceAfter f toDevice { r with opDone := d } = graft (deviceAfter f toDevice r) { r with opDone := d } :=
    deviceAfter_graft f toDevice r { r with opDone := d }
  rw [frameDone_eq_graft, frameDone_eq_graft, hdevice]
  rfl

theorem cmdDone_opDone (o : Byte) (n : Lines) (d : Bool) (s : State) :
    cmdDone o n { s with opDone := d } = { cmdDone o n s with opDone := d } :=
  frameDone_opDone _ _ _ d { s with ccr := tmwOfCmd o n }

/-- RDID of the bus as INITIALIZE leaves it. -/
def identified (s : State) : State := withReport (answered (initialized s) rdidFrame 8) (ended (rdidDone (initialized s)))

theorem Ready.withReport (h : Ready s) (id : List Byte) : Ready (withReport id s) := by
  unfold Machine.withReport
  split <;> exact h

theorem Ready.rdidDone (h : Ready s) : Ready (rdidDone s) :=
  Ready.frameDone (r := { s with dlr := 7, ccr := tmwRdidWord, ar := 0 }) h _ _ _

theorem ready_identified (h : Ready (initialized s)) : Ready (identified s) :=
  Ready.withReport (s := ended (rdidDone (initialized s))) (Ready.rdidDone h) _

theorem withReport_devMode (id : List Byte) (s : State) : (withReport id s).devMode = s.devMode := by
  unfold withReport
  split <;> rfl

theorem identified_unwound (s : State) : (identified s).unwound = false := by
  unfold identified withReport
  split <;> rfl

/-- An operation's end, when it is known already. -/
theorem opDone_of_eq {d : Bool} (h : d = s.opDone) : { s with opDone := d } = s := by rw [h]

theorem cmdDone_caller (o : Byte) (n : Lines) (s : State) : (cmdDone o n s).opDone = s.opDone ∧ (cmdDone o n s).unwound = s.unwound := by
  rw [cmdDone, frameDone_eq_graft]
  exact ⟨rfl, rfl⟩

theorem Ready.cmdDone (h : Ready s) (o : Byte) (n : Lines) : Ready (cmdDone o n s) :=
  Ready.frameDone (r := { s with ccr := tmwOfCmd o n }) h _ _ _

/-- INIT, whatever the device answers. -/
theorem exec_init (hq : Quiet s) (hp : ParamsOk s.par) (hr : s.par.responsive = true) :
    exec .init s = .next (cmdDone 0x35 .one (identified s)) := by
  have hready := ready_initialized hq hp hr
  have hbegin : Alone (beginOp s) := alone_beginOp hq
  have halone : Alone (beginOp (initialized s)) := alone_beginOp hready.1
  have hinit : runMicros (initialiseSteps s.par ++ (rdidSteps ++ cmdSteps 0x35 .one)) (beginOp s)
      = runMicros (rdidSteps ++ cmdSteps 0x35 .one) (beginOp (initialized s)) := hbegin.runMicros_initialiseSteps hp.1 _
  obtain ⟨d, hrdid⟩ : ∃ d, runMicros rdidSteps (beginOp (initialized s)) = { identified s with opDone := d } :=
    runMicros_of_next rfl (exec_rdid hready) (withReport_opDone _ _)
  have hid := ready_identified hready
  have hrun : halted { identified s with opDone := d } = false := (halted_eq_false _).2 ⟨hid.1.1, identified_unwound s⟩
  have hcmd : runMicros (initSteps s.par) (beginOp s) = { cmdDone 0x35 .one (identified s) with opDone := d } := by
    rw [initSteps, List.append_assoc, hinit, runMicros_append _ _ _ halone.running, hrdid, if_neg (ne_true_of_eq_false hrun)]
    exact (Ready.runMicros_cmdSteps (s := { identified s with opDone := d }) hid hrun 0x35 .one).trans
      (cmdDone_opDone 0x35 .one d (identified s))
  obtain ⟨hdone, hwound⟩ := cmdDone_caller 0x35 .one (identified s)
  have hdone : true = (cmdDone 0x35 .one (identified s)).opDone := (hdone.trans (withReport_opDone _ _)).symm
  have hquiet := (Ready.cmdDone hid 0x35 .one).1
  have hend : Alone { cmdDone 0x35 .one (identified s) with opDone := d } :=
    ⟨hquiet.2, (halted_eq_false _).2 ⟨hquiet.1, hwound.trans (identified_unwound s)⟩⟩
  rw [exec_of_run hq rfl hcmd hend]
  exact congrArg Host.Outcome.next (opDone_of_eq hdone)

/-- The device enters QPI mode. -/
theorem cmdDone_enterQuad (hm : s.devMode = .spi) : cmdDone 0x35 .one s = { s with
    ccr := 0x00000135, tcf := true, busy := .zero, fifo := [], ph := .idle, wireBytes := [], nCS := true, clk := false, io := .undriven
    devMode := .qpi, trace := s.trace ++ [.tmwWrite 0x00000135, .frame (frameRecord (cmdFrame 0x35 .one) false false [])] } := by
  rw [cmdDone_of_answerTo (answerTo_enterQuad hm)]
  simp only [emit, List.append_assoc, List.singleton_append]
  rfl

theorem answerTo_rdidFrame (hm : s.devMode = .spi) : answerTo s rdidFrame = .readId := answerTo_spi (.inl ⟨hm, rfl⟩) hm 0x9F rfl (by decide)

/-- A device in SPI mode stays there while it is identified. -/
theorem identified_spi (hm : s.devMode = .spi) : (identified s).devMode = .spi := by
  let r : State := { initialized s with dlr := 7, ccr := tmwRdidWord, ar := 0 }
  have hafter : deviceAfter rdidFrame [] r = r := deviceAfter_of_answerTo (answerTo_rdidFrame (s := r) hm) []
  obtain ⟨-, -, hdev, -⟩ := hafter ▸ frameDone_device rdidFrame (answered (initialized s) rdidFrame 8) [] r
  exact (withReport_devMode _ _).trans (hdev.trans hm)

/-- Settles O47: the device gives its identification and then enters QPI mode; the frames stand behind INITIALIZE's events. -/
theorem initBringsTheDeviceUp : Obligations.InitBringsTheDeviceUp := by
  intro s hq hp hr hm c id
  have hans : answerTo (initialized s) rdidFrame = .readId := answerTo_rdidFrame hm
  have hans' : answerTo { initialized s with dlr := 7, ccr := tmwRdidWord, ar := 0 } rdidFrame = .readId := hans
  have hbytes : answered (initialized s) rdidFrame 8 = id := by
    rw [answered, hans]
    exact devBytes_readId _ _
  have hdata : rdidFrame.data = some ⟨.one, .read, 8⟩ := rfl
  have hdone : identified s = withReport id (ended { c with
      dlr := 7, ccr := 0x0500259F, tcf := true, wireBytes := id, draws := s.draws + 8
      trace := c.trace ++ [.tmwWrite 0x0500259F, .frame (frameRecord rdidFrame false false id)] }) := by
    rw [identified, rdidDone, hbytes, frameDone_of_read hdata, hans']
    simp only [emit, List.append_assoc, List.singleton_append]
    rfl
  rw [exec_init hq hp hr, cmdDone_enterQuad (identified_spi hm), hdone]
  unfold withReport
  cases reported id
  · simp only [List.append_nil, Bool.false_eq_true, if_false]
    rfl
  · simp only [if_true]
    rfl

/-! ### A second INIT -/

/-- The registers, flags, descriptors and mode that INIT leaves. -/
structure BroughtUp (p : Params) (irq : Bool) (t : State) : Prop where
  cr : t.cr = crWord p
  dcr : t.dcr = dcrWord p
  ccr : t.ccr = tmwOfCmd 0x35 .one
  dlr : t.dlr = 7
  ar : t.ar = 0
  abr : t.abr = 0
  tcf : t.tcf = true
  busy : t.busy = .zero
  fifo : t.fifo = []
  ph : t.ph = .idle
  mode : t.mode = .indirectAccess
  rgnOuter : t.rgnOuter = rgnOuterWith p 0
  rgnMid : t.rgnMid = rgnMidWith p 0
  rgnInner : t.rgnInner = rgnInnerWith p 0
  irqEnabled : t.irqEnabled = irq

theorem broughtUp_init (s : State) : BroughtUp s.par s.irqEnabled (cmdDone 0x35 .one (identified s)) := by
  rw [cmdDone, frameDone_eq_graft, identified, rdidDone, frameDone_eq_graft]
  unfold withReport
  split <;> exact ⟨rfl, rfl, rfl, rfl, rfl, rfl, rfl, rfl, rfl, rfl, rfl, rfl, rfl, rfl, rfl⟩

theorem init_par (s : State) : (cmdDone 0x35 .one (identified s)).par = s.par := by
  have hreport (id : List Byte) (u : State) : (withReport id u).par = u.par := by
    unfold withReport
    split <;> rfl
  exact (frameDone_par ..).trans ((hreport _ _).trans (frameDone_par ..))

/-- A frame that the device does not answer loses it and its array (42_transaction_primitives.md R211). -/
theorem deviceAfter_unanswered {f : FrameShape} (h : answerTo s f = .undefined) :
    (deviceAfter f [] s).devMode = .unknown ∧ (deviceAfter f [] s).psram = [] := by
  rw [deviceAfter_of_answerTo h]
  exact ⟨rfl, rfl⟩

/-- INIT on a device that listens on four lines. -/
theorem init_unheard (hm : s.devMode = .qpi) (hq : s.par.quadIlines = .four) :
    (cmdDone 0x35 .one (identified s)).devMode = .unknown ∧ (cmdDone 0x35 .one (identified s)).psram = [] := by
  let r : State := { initialized s with dlr := 7, ccr := tmwRdidWord, ar := 0 }
  have hrdid : answerTo r rdidFrame = .undefined := by
    have hmode : r.devMode = .qpi := hm
    have hlines : r.par.quadIlines = .four := hq
    simp [answerTo, devAnswer, listening, hmode, hlines, rdidFrame]
  have hid : (identified s).devMode = .unknown := by
    obtain ⟨-, -, hdev, -⟩ := frameDone_device rdidFrame (answered (initialized s) rdidFrame 8) [] r
    exact (withReport_devMode _ _).trans (hdev.trans (deviceAfter_unanswered hrdid).1)
  have hcmd : answerTo { identified s with ccr := tmwOfCmd 0x35 .one } (cmdFrame 0x35 .one) = .undefined := by
    simp [answerTo, devAnswer, listening, hid]
  obtain ⟨hpsram, -, hdev, -⟩ := frameDone_device (cmdFrame 0x35 .one) [] [] { identified s with ccr := tmwOfCmd 0x35 .one }
  obtain ⟨hlost, hspoiled⟩ := deviceAfter_unanswered hcmd
  exact ⟨hdev.trans hlost, hpsram.trans hspoiled⟩

/-- Settles O48: what INIT leaves of the block depends on the straps and the interrupt mask alone, which it keeps; its frames go out on one
line. -/
theorem secondInitLeavesTheSameBlockState : Obligations.SecondInitLeavesTheSameBlockState := by
  intro s hq hp hr hm
  have hready : Ready (cmdDone 0x35 .one (identified s)) := (ready_identified (ready_initialized hq hp hr)).cmdDone ..
  have hpar := init_par s
  have hdev : (cmdDone 0x35 .one (identified s)).devMode = .qpi := by rw [cmdDone_enterQuad (identified_spi hm)]
  have ht := broughtUp_init s
  have hu := broughtUp_init (cmdDone 0x35 .one (identified s))
  rw [hpar, ht.irqEnabled] at hu
  exact ⟨_, _, exec_init hq hp hr, exec_init hready.1 (hpar.symm ▸ hp) ((congrArg Params.responsive hpar).trans hr),
    hu.cr.trans ht.cr.symm, hu.dcr.trans ht.dcr.symm, hu.ccr.trans ht.ccr.symm, hu.dlr.trans ht.dlr.symm, hu.ar.trans ht.ar.symm,
    hu.abr.trans ht.abr.symm, hu.tcf.trans ht.tcf.symm, hu.busy.trans ht.busy.symm, hu.fifo.trans ht.fifo.symm, hu.ph.trans ht.ph.symm,
    hu.mode.trans ht.mode.symm, hu.rgnOuter.trans ht.rgnOuter.symm, hu.rgnMid.trans ht.rgnMid.symm, hu.rgnInner.trans ht.rgnInner.symm,
    hu.irqEnabled.trans ht.irqEnabled.symm, fun hfour => init_unheard hdev ((congrArg Params.quadIlines hpar).trans hfour)⟩

end Sys2Proof.Machine
end

section
/-! PROOF. O45: the misuses that are not a primitive's (60_exceptions.md R261, 43_bus_mode_arbitration.md R229). A precondition stands first in
its operation; a second context is found at the first place, and by INITIALIZE, whose micro-steps keep the mode until the last, at each of
its places. -/

namespace Sys2Proof.Machine

variable {s : State}

/-! ### The checks -/

theorem acquirePre_uninitialized (h : s.mode = .uninitialized) : acquirePre s = raise (.misuse .acquireBeforeInitialize) s :=
  if_pos (by simp [h])

theorem releasePre_outside (h : s.mode ≠ .indirectAccess) : releasePre s = raise (.misuse .releaseOutsideBracket) s :=
  if_neg (by simpa using h)

theorem abortPre_disabled (h : crEn s.cr = false) : abortPre s = raise (.misuse .abortBeforeConfigure) s :=
  if_neg (by simp [h])

theorem accessPre_uninitialized (r : MisuseReason) (a len : Word) (h : s.mode = .uninitialized) :
    accessPre r a len s = raise (.misuse r) s :=
  if_pos (by simp [h])

theorem accessPre_outside (r : MisuseReason) {a len : Word} (hm : s.mode ≠ .uninitialized) (hr : capBytes s.par < a.toNat + len.toNat) :
    accessPre r a len s = raise (.misuse .rangeOutsideDevice) s := by
  rw [accessPre, if_neg (by simpa using hm), if_pos hr]

/-- READ and WRITE of a length that is not 0 begin with their checks (44_access_library.md R243, R245). -/
theorem access_begins {a len : Word} (hlen : len ≠ 0) (p : Params) (q : Word) :
    (∃ ms, readSteps p a len q = accessPre .readBeforeInit a len :: ms)
      ∧ ∃ ms, writeSteps p a len q = accessPre .writeBeforeInit a len :: ms :=
  ⟨⟨_, if_neg (by simpa using hlen)⟩, ⟨_, if_neg (by simpa using hlen)⟩⟩

/-- What the checks of READ and WRITE raise is all that READ and WRITE do. -/
theorem exec_of_accessPre_raise {a len : Word} {f g : Fault} (h : Quiet s) (hlen : len ≠ 0) (q : Word)
    (hf : accessPre .readBeforeInit a len (beginOp s) = raise f (beginOp s))
    (hg : accessPre .writeBeforeInit a len (beginOp s) = raise g (beginOp s)) :
    exec (.read a len q) s = .next (stopped f s) ∧ exec (.write a len q) s = .next (stopped g s) := by
  obtain ⟨⟨ms, hread⟩, ⟨ms', hwrite⟩⟩ := access_begins (a := a) hlen s.par q
  exact ⟨(congrArg (runOp · s) hread).trans (runOp_of_raise ms h hf), (congrArg (runOp · s) hwrite).trans (runOp_of_raise ms' h hg)⟩

/-! ### A second context at the next place -/

theorem interleave_present {ts : List Turn} {rest : List (List Turn)} (h : s.sched = (.present :: ts) :: rest) :
    interleave s = raise (.misuse .reentrant) { s with sched := rest } := by
  rw [interleave, h]
  rfl

/-- The micro-step behind the place is not reached. -/
theorem runMicros_present (m : Micro) (ms : List Micro) {ts : List Turn} {rest : List (List Turn)}
    (h : s.sched = (.present :: ts) :: rest) : runMicros (m :: ms) s = raise (.misuse .reentrant) { s with sched := rest } := by
  rw [runMicros, interleave_present h]
  rfl

/-- An operation that has run to a place where a second context presents one ends there (43_bus_mode_arbitration.md R229). -/
theorem exec_of_present {i : Instr} {m : Micro} {ms ms' : List Micro} {u : State} {ts : List Turn} {rest : List (List Turn)}
    (hf : s.fault = none) (hi : workOf s.par i = .operation ms) (hrun : runMicros ms (beginOp s) = runMicros (m :: ms') u)
    (hs : u.sched = (.present :: ts) :: rest) :
    exec i s = .next { u with sched := rest, fault := some (.misuse .reentrant), opDone := false, unwound := false } := by
  rw [exec_of_none i s hf, hi, Work.after, hrun, runMicros_present m ms' hs, endOp_of_fault _ rfl]
  rfl

/-- An operation has a first micro-step; only READ and WRITE of length 0 have none. -/
theorem operation_begins {i : Instr} (p : Params) (hi : isOperation i = true) (hlen : ∀ a q, i ≠ .read a 0 q ∧ i ≠ .write a 0 q) :
    ∃ m ms, workOf p i = .operation (m :: ms) := by
  cases i with
  | read a len q =>
    have hne : len ≠ 0 := fun h => (hlen a q).1 (by rw [h])
    obtain ⟨ms, hread⟩ := (access_begins (a := a) hne p q).1
    exact ⟨_, ms, congrArg Work.operation hread⟩
  | write a len q =>
    have hne : len ≠ 0 := fun h => (hlen a q).2 (by rw [h])
    obtain ⟨ms, hwrite⟩ := (access_begins (a := a) hne p q).2
    exact ⟨_, ms, congrArg Work.operation hwrite⟩
  | configure | denyAll | allowMapped | rdid | cmd | wr1 | wra | rd1 | rda | mmapCfg | abort | initialise | acquire | release | init
  | reserved0E | reserved0F | reserved13 | reserved14 | reserved15 | reserved16 | reserved17 | reserved18 | reserved19 | reserved1A
  | reserved1B | reserved1C | reserved1D | reserved1E | reserved1F => exact ⟨_, _, rfl⟩
  | _ => cases hi

/-! ### A second context at a later place -/

/-- From `s` to `t` the operation goes on: nothing halts it, and the straps, the mode and the schedule are as they were. -/
structure Onward (s t : State) : Prop where
  halted : halted t = halted s
  par : t.par = s.par
  mode : t.mode = s.mode
  sched : t.sched = s.sched

/-- Micro-steps that go on under legal straps, with nothing scheduled at their places, lead to the place behind them. -/
theorem runMicros_to_place {j : Nat} {ms : List Micro} {later : List (List Turn)}
    (hms : ∀ m ∈ ms.take j, ∀ t, paramsLegal t.par = true → Onward t (m t)) (hj : j ≤ ms.length) (hh : halted s = false)
    (hp : paramsLegal s.par = true) (hs : s.sched = List.replicate j [] ++ later) :
    ∃ u, runMicros ms s = runMicros (ms.drop j) u ∧ u.mode = s.mode ∧ u.sched = later := by
  induction j generalizing ms s with
  | zero => exact ⟨s, rfl, rfl, hs⟩
  | succ j ih =>
    cases ms with
    | nil => cases hj
    | cons m ms =>
      obtain ⟨hm, hrest⟩ := List.forall_mem_cons.1 hms
      let t : State := { s with sched := List.replicate j [] ++ later }
      have hplace : interleave s = t := by
        rw [interleave, hs]
        rfl
      have hrun : halted t = false := hh
      have hon : Onward t (m t) := hm t hp
      have hnext : halted (m t) = false := hon.halted.trans hrun
      obtain ⟨u, hu, hmode, hsched⟩ := ih hrest (Nat.le_of_succ_le_succ hj) hnext (hon.par ▸ hp) hon.sched
      refine ⟨u, ?_, hmode.trans hon.mode, hsched⟩
      simp [runMicros, hplace, hrun, hnext, hu]

theorem onward_peripheralReset (t : State) : Onward t (peripheralReset t) := by
  obtain ⟨hhalted, hsched⟩ := smooth_peripheralReset t
  exact ⟨hhalted, by simp [peripheralReset, emitCutOff_eq], by simp [peripheralReset, emitCutOff_eq], hsched⟩

theorem onward_denyStep (t : State) : Onward t (denyStep t) := by
  rw [denyStep_eq_closed]
  exact ⟨rfl, rfl, rfl, rfl⟩

/-- INITIALIZE goes on until the mode is set (43_bus_mode_arbitration.md R222). -/
theorem onward_initialise (p : Params) :
    ∀ m ∈ configureSteps p ++ [denyStep], ∀ t, paramsLegal t.par = true → Onward t (m t) := by
  simp only [configureSteps, List.cons_append, List.nil_append, List.forall_mem_cons]
  have hcheck (t : State) (hp : paramsLegal t.par = true) : Onward t (checkParams t) := by
    rw [checkParams_of_legal hp]
    exact ⟨rfl, rfl, rfl, rfl⟩
  exact ⟨hcheck, fun _ _ => ⟨rfl, rfl, rfl, rfl⟩, fun t _ => onward_peripheralReset t, fun _ _ => ⟨rfl, rfl, rfl, rfl⟩,
    fun _ _ => ⟨rfl, rfl, rfl, rfl⟩, fun t _ => onward_denyStep t, nofun⟩

/-- INITIALIZE leads to each of its places: the first `j` micro-steps keep the mode, and one is left. -/
theorem initialise_to_place {j : Nat} {later : List (List Turn)} (hj : j ≤ 6) (hh : halted s = false) (hp : paramsLegal s.par = true)
    (hs : s.sched = List.replicate j [] ++ later) :
    ∃ m ms u, runMicros (initialiseSteps s.par) s = runMicros (m :: ms) u ∧ u.mode = s.mode ∧ u.sched = later := by
  have hlen : j < (initialiseSteps s.par).length := Nat.lt_succ_of_le hj
  have hbefore : (initialiseSteps s.par).take j = (configureSteps s.par ++ [denyStep]).take j :=
    List.take_append_of_le_length (l₁ := configureSteps s.par ++ [denyStep]) (l₂ := [setMode .indirectAccess]) hj
  have honward : ∀ m ∈ (initialiseSteps s.par).take j, ∀ t, paramsLegal t.par = true → Onward t (m t) := fun m hm =>
    onward_initialise s.par m (List.mem_of_mem_take (hbefore ▸ hm))
  obtain ⟨u, hu, hmode, hsched⟩ := runMicros_to_place honward hlen.le hh hp hs
  rw [List.drop_eq_getElem_cons hlen] at hu
  exact ⟨_, _, u, hu, hmode, hsched⟩

/-! ### The obligation -/

/-- Settles O45: a precondition that fails, or a second context at the first place, is all that the operation does; at a later place of
INITIALIZE the mode is not yet set. -/
theorem misuseIsRecordedFirst : Obligations.MisuseIsRecordedFirst := by
  refine ⟨fun s a len p hq => ?preconditions, fun i s ts rest hi hlen hf hs => ?first, fun s j ts rest hf hp hj hs => ?initialise⟩
  case preconditions =>
    have hinit (hlen : len ≠ 0) (hm : s.mode = .uninitialized) :=
      exec_of_accessPre_raise hq hlen p (accessPre_uninitialized (s := beginOp s) _ a len hm) (accessPre_uninitialized _ a len hm)
    exact ⟨fun hm => runOp_of_raise _ hq (acquirePre_uninitialized (s := beginOp s) hm),
      fun hm => runOp_of_raise _ hq (releasePre_outside (s := beginOp s) hm),
      fun he => runOp_of_raise _ hq (abortPre_disabled (s := beginOp s) he),
      fun hlen hm => (hinit hlen hm).1, fun hlen hm => (hinit hlen hm).2,
      fun hlen hm hr => exec_of_accessPre_raise hq hlen p (accessPre_outside _ hm hr) (accessPre_outside _ hm hr)⟩
  case first =>
    obtain ⟨m, ms, hwork⟩ := operation_begins s.par hi hlen
    exact exec_of_present (u := beginOp s) hf hwork rfl hs
  case initialise =>
    have hbegin : halted (beginOp s) = false := (halted_eq_false _).2 ⟨hf, rfl⟩
    obtain ⟨m, ms, u, hplace, hmode, hsched⟩ := initialise_to_place (s := beginOp s) hj hbegin hp hs
    exact ⟨_, exec_of_present hf rfl hplace hsched, rfl, rfl, hmode⟩

end Sys2Proof.Machine
end

section
/-! PROOF. O46: the interval between CONFIGURE's peripheral reset and DENY_ALL (70_reset_and_hazards.md R318). Inside it the descriptors are
still those from before, and `CCR`, which the reset cleared, maps no window; so an access that they permit is `Wedged`. -/

namespace Sys2Proof.Machine

variable {s t : State} {kind : CpuKind} {a : Word} {k : CpuSize} {ms : List Micro} {later : List (List Turn)}

/-! ### To a place inside an operation -/

/-- `runMicros_to_place` with what is known at each place: where the `n`-th micro-step goes on and leads from `P n` to `P (n + 1)`, and
nothing is scheduled at the first `j` places, the place behind them is reached with `P j`. -/
theorem runMicros_to_place_through {P : Nat → State → Prop} (hsched : ∀ n t rest, halted t = false → P n t → P n { t with sched := rest })
    (hms : ∀ n m t, ms[n]? = some m → halted t = false → P n t → Onward t (m t) ∧ P (n + 1) (m t)) {j : Nat} (hj : j ≤ ms.length)
    (hP : P 0 s) (hh : halted s = false) (hs : s.sched = List.replicate j [] ++ later) (ms' : List Micro) :
    ∃ u, runMicros (ms ++ ms') s = runMicros (ms.drop j ++ ms') u ∧ halted u = false ∧ u.sched = later ∧ P j u := by
  induction j generalizing P ms s with
  | zero => exact ⟨s, rfl, hh, hs, hP⟩
  | succ j ih =>
    cases ms with
    | nil => cases hj
    | cons m ms =>
      let t : State := { s with sched := List.replicate j [] ++ later }
      have hplace : interleave s = t := by
        rw [interleave, hs]
        rfl
      have hrun : halted t = false := hh
      obtain ⟨hon, hP'⟩ := hms 0 m t rfl hrun (hsched 0 s _ hh hP)
      have hnext : halted (m t) = false := hon.halted.trans hrun
      obtain ⟨u, hu, hend⟩ := ih (P := fun n => P (n + 1)) (fun n => hsched (n + 1)) (fun n => hms (n + 1))
        (Nat.le_of_succ_le_succ hj) hP' hnext hon.sched
      exact ⟨u, by simpa [runMicros, hplace, hrun, hnext] using hu, hend⟩

/-! ### Inside CONFIGURE -/

/-- CONFIGURE, begun in `s`, has run its first `n` micro-steps; the third is the peripheral reset (40_bus_config.md R151). -/
structure Configuring (s : State) (n : Nat) (t : State) : Prop where
  changes : Changes (writesOf .configure) s t
  unmapped : 3 ≤ n → t.ccr = 0

theorem Configuring.sched {n : Nat} (h : Configuring s n t) (hrun : halted t = false) (rest : List (List Turn)) :
    Configuring s n { t with sched := rest } :=
  ⟨h.changes.trans (fault_of_not_halted hrun) (.of_owned rfl List.prefix_rfl), h.unmapped⟩

/-- The peripheral reset clears `CCR`, and the loads behind it leave it. -/
theorem Configuring.ccr_next {n : Nat} (h : Configuring s n t) {p : Params} {m : Micro} (hm : (configureSteps p)[n]? = some m)
    (hn : 3 ≤ n + 1) : (m t).ccr = 0 := by
  match n, hm with
  | 2, rfl => rfl
  | 3, rfl => exact h.unmapped le_rfl
  | 4, rfl => exact h.unmapped (by decide)

theorem Configuring.next {n : Nat} (h : Configuring s n t) (hp : paramsLegal s.par = true) (hrun : halted t = false) {p : Params}
    {m : Micro} (hm : (configureSteps p)[n]? = some m) : Onward t (m t) ∧ Configuring s (n + 1) (m t) := by
  have hmem : m ∈ configureSteps p := List.mem_of_getElem? hm
  have hlegal : paramsLegal t.par = true := h.changes.par ▸ hp
  exact ⟨onward_initialise p m (List.mem_append_left _ hmem) t hlegal, moves_configureSteps rfl p m hmem s t hrun h.changes, h.ccr_next hm⟩

/-- Inside CONFIGURE the window permits what it permitted before: CONFIGURE writes no descriptor (40_bus_config.md R157). -/
theorem Configuring.permitted {n : Nat} (h : Configuring s n t) (hrun : halted t = false) (hs : Permitted s a k) : Permitted t a k := by
  have hpar := h.changes.par
  obtain ⟨hout, hmid, hin⟩ := h.changes.window (isWedged_of_fault_none (fault_of_not_halted hrun)) rfl
  have hallowed : allowed t = allowed s := by
    funext x
    rw [allowed, allowed, hin, hmid, hout]
  obtain ⟨hspan, hfirst, hlast⟩ := hs
  exact ⟨by rwa [Spanned, hpar], hallowed ▸ hfirst, hallowed ▸ hlast⟩

/-! ### The access -/

/-- An operation that has run to a place where the CPU makes a permitted access while `CCR` is 0 ends there. -/
theorem runMicros_wedged (h : Permitted s a k) (hccr : s.ccr = 0) (hs : s.sched = [.cpu ⟨kind, a, k⟩] :: later) (hne : ms ≠ []) :
    runMicros ms s = raiseWedged kind a k (emit (.cpuAccess kind a k .wedged) { s with sched := later }) := by
  have hpermitted : Permitted { s with sched := later } a k := ⟨h.spanned, h.first, h.last⟩
  have haccess := hpermitted.mappedAccess (kind := kind)
  have hunmapped : ccrMapped s.ccr = false := hccr ▸ rfl
  rw [if_pos (by simp [hunmapped])] at haccess
  obtain ⟨m, ms, rfl⟩ := List.exists_cons_of_ne_nil hne
  have hplace : interleave s = raiseWedged kind a k (emit (.cpuAccess kind a k .wedged) { s with sched := later }) := by
    rw [interleave, hs]
    simp only [takeTurns, takeTurn, haccess, ite_self]
  rw [runMicros, hplace]
  rfl

/-! ### The obligation -/

/-- INITIALIZE and INIT run CONFIGURE and then DENY_ALL (43_bus_mode_arbitration.md R222, 44_access_library.md R241). -/
theorem configure_then_deny (p : Params) :
    ∀ i ∈ [Instr.initialise, .init], ∃ ms, workOf p i = .operation (configureSteps p ++ denyStep :: ms) := by
  simp only [List.forall_mem_cons]
  exact ⟨⟨_, rfl⟩, ⟨_, rfl⟩, nofun⟩

/-- Settles O46: at each place of the interval the access is one that CONFIGURE has left permitted and not mapped. -/
theorem secondInitIntervalWedges : Obligations.SecondInitIntervalWedges := by
  intro s kind a k j rest hf hp hreset hdeny hs hlo hhi hfirst hlast i hi
  obtain ⟨ms, hwork⟩ := configure_then_deny s.par i hi
  have hbegin : halted (beginOp s) = false := (halted_eq_false _).2 ⟨hf, rfl⟩
  have hpermitted : Permitted (beginOp s) a k := ⟨⟨hlo, hhi⟩, hfirst, hlast⟩
  have hstart : Configuring (beginOp s) 0 (beginOp s) := ⟨.refl _, nofun⟩
  obtain ⟨u, hrun, hgoing, hsched, hconf⟩ := runMicros_to_place_through (fun _ _ rest h hc => hc.sched h rest)
    (fun _ _ _ hm h hc => hc.next hp h hm) hdeny hstart hbegin hs (denyStep :: ms)
  have hend := runMicros_wedged (ms := (configureSteps s.par).drop j ++ denyStep :: ms) (hconf.permitted hgoing hpermitted)
    (hconf.unmapped hreset) hsched (by simp)
  refine ⟨_, exec_of_none i s hf, ?_⟩
  rw [hwork, Work.after, hrun, hend, endOp_of_fault _ rfl]
  exact ⟨rfl, List.getLast?_concat .., rfl⟩

end Sys2Proof.Machine
end
